-- ==== Sys2Proof/Word.lean ====
section
/-!
DEFINITION. The two widths of AESENG (spec/00_scope.md rule R9): a byte is 8 bits and a word is 32 bits, bit 0 the least
significant. All values are unsigned, and `^^^`, `&&&`, `|||`, `~~~`, `<<<`, `>>>` and `++` of `BitVec` are the rule's operators.
-/

namespace Sys2Proof

/-- A byte: 8 bits (rule R9). -/
abbrev Byte := BitVec 8

/-- A word: 32 bits, the width of every register, bus access and command (rules R9 and R62). -/
abbrev Word := BitVec 32

end Sys2Proof
end

