-- ==== Sys2Proof/Config.lean ====
section
/-!
DEFINITION. What the spec leaves open, as constants with no body: no proof can see what they are, so a theorem holds whatever they
are. The parameter `P_LAT` is not here: how many engine steps a command takes, and where between the host's accesses they fall, is
plain data of the state's schedule (log entry 3).
-/

namespace Sys2Proof

/-- FREE VALUE (spec/93_implementation_defined.md U1 and U2; log entries 5 and 6): the `n`-th unspecified word the machine draws.
A read of KEY, DATA or RKDATA while BUSY = 1 returns one (rule R47), and a reset leaves sixty of them in the round-key RAM
(rule R49). `State.draws` numbers the draws, so two reads may differ. -/
opaque Config.freeWord : Nat → Word

/-- OPEN PARAMETER `P_BASE` (rules R8, R20 and R61; log entry 8): the base address of the register window in the host's map. -/
opaque Config.pBase : Nat

/-- OPEN PARAMETER (rules R210 and R218, U6; log entry 8): which input of the platform's interrupt controller the output drives. -/
opaque Config.irqLine : Nat

/-- The host's address of a window offset, the one addressing mode of rule R76. The block itself sees the offset only. -/
def Config.busAddress (off : BitVec 8) : Nat := Config.pBase + off.toNat

end Sys2Proof
end

