-- ==== Sys2Proof/Syntax.lean ====
section
/-!
DEFINITION. The twelve commands of AESENG, one constructor per row of spec/opcode_table.json (spec/30_encoding.md rule R83).
-/

namespace Sys2Proof

/-- A command. RKI is the only explicit operand, and only ADDROUNDKEY uses it (rule R82): the other eleven constructors carry
nothing. The four bits of RKI are typed, so every term of this type has a command word. -/
inductive Instr where
  /-- NOP, opcode 0x00 (spec/44_control_commands.md rule R190). -/
  | nop
  /-- EXPAND, opcode 0x01 (spec/41_keyschedule.md rule R128). -/
  | expand
  /-- ENCRYPT, opcode 0x02 (spec/43_block_cipher.md rule R177). -/
  | encrypt
  /-- DECRYPT, opcode 0x03 (spec/43_block_cipher.md rule R178). -/
  | decrypt
  /-- CLEAR, opcode 0x04 (spec/44_control_commands.md rule R191). -/
  | clear
  /-- SUBBYTES, opcode 0x10 (spec/42_round_transforms.md rule R150). -/
  | subBytes
  /-- INVSUBBYTES, opcode 0x11 (spec/42_round_transforms.md rule R151). -/
  | invSubBytes
  /-- SHIFTROWS, opcode 0x12 (spec/42_round_transforms.md rule R152). -/
  | shiftRows
  /-- INVSHIFTROWS, opcode 0x13 (spec/42_round_transforms.md rule R153). -/
  | invShiftRows
  /-- MIXCOLUMNS, opcode 0x14 (spec/42_round_transforms.md rule R154). -/
  | mixColumns
  /-- INVMIXCOLUMNS, opcode 0x15 (spec/42_round_transforms.md rule R155). -/
  | invMixColumns
  /-- ADDROUNDKEY, opcode 0x16, with its round-key index operand (spec/42_round_transforms.md rule R156). -/
  | addRoundKey (rki : BitVec 4)
  deriving DecidableEq, Repr

end Sys2Proof
end

