-- ==== Sys2Proof/Machine/State.lean ====
section
/-!
DEFINITION. The state of AESENG as plain data, and the state right after reset (spec/10_state.md; the values: rule R49). The
constant tables are no state (rule R46), and there is no program counter (rule R45). The last four fields are the model's own: the
host side that the spec puts outside the block, held as data so that one deterministic step can run it.
-/

namespace Sys2Proof.Machine

/-- The four bytes of a word, `a0` the first: `w.0 w.1 w.2 w.3` of rule R10. A column of the AES state is one (rule R41). -/
structure Column where
  a0 : Byte
  a1 : Byte
  a2 : Byte
  a3 : Byte
  deriving DecidableEq, Repr

/-- The 4×4 byte matrix `S` of rule R10, by columns: `S[r][c]` is byte `r` of column `c` (rule R41). -/
structure Grid where
  c0 : Column
  c1 : Column
  c2 : Column
  c3 : Column
  deriving DecidableEq, Repr

/-- The error codes of rule R200. Codes 6 to 15 are reserved and never recorded, so they have no constructor (log entry 13). -/
inductive ErrorCode where
  /-- 0, NONE: no error recorded. -/
  | noError
  /-- 1, ILLEGAL: a CMD word fails the decode. -/
  | illegal
  /-- 2, BUSY: a write while a command is in flight. -/
  | busy
  /-- 3, BADKSZ: EXPAND with CTRL.KSZ = 3. -/
  | badKsz
  /-- 4, NOKEY: a command that needs the expansion while KEYVALID = 0. -/
  | noKey
  /-- 5, BADRKI: ADDROUNDKEY with RKI above KNR. -/
  | badRki
  deriving DecidableEq, Repr

/-- PEND when a command is in flight (rules R43 and R175): the command with what its acceptance captured. One constructor per
command, with the record of rule R175's pseudocode. -/
inductive Pending where
  | nop
  /-- The key words KEY0 .. KEY(Nk-1), Nk and Nr. -/
  | expand (k : List Word) (nk nr : Nat)
  /-- The block and the round count KNR. -/
  | encrypt (blk : Grid) (nr : Nat)
  | decrypt (blk : Grid) (nr : Nat)
  | clear
  | subBytes (blk : Grid)
  | invSubBytes (blk : Grid)
  | shiftRows (blk : Grid)
  | invShiftRows (blk : Grid)
  | mixColumns (blk : Grid)
  | invMixColumns (blk : Grid)
  /-- The block and the round-key index. -/
  | addRoundKey (blk : Grid) (rki : BitVec 4)
  deriving DecidableEq, Repr

/-- The two agents of rule R6. -/
inductive Agent where
  /-- The host: a bus master doing one register access at a time. -/
  | host
  /-- The engine: the command executor. -/
  | engine
  deriving DecidableEq, Repr

/-- One host access that reaches the window: its width in bits, its offset in the 0x100-byte window and, for a write, its data
(rules R6, R62 and R76; log entries 8 and 11). -/
inductive Access where
  | read (bits : Nat) (off : BitVec 8)
  | write (bits : Nat) (off : BitVec 8) (v : Word)
  deriving DecidableEq, Repr

/-- One entry of the schedule: what happens next at the block (log entries 1 and 3). -/
inductive Event where
  /-- The host performs an access (rule R68). -/
  | access (a : Access)
  /-- The engine takes a step of `P_LAT` that is not the completing one: it touches working storage only (rules R8 and R44). -/
  | engineWork
  /-- The engine takes its completion step (rule R176). -/
  | engineComplete
  /-- The platform asserts reset (rule R230). -/
  | reset
  deriving DecidableEq, Repr

/-- The block's answer to an access (rule R63): OKAY, with the data of a read and none for a write, or the bus error response,
with 0x00000000 as the data of a read. -/
inductive Response where
  | okay (data : Option Word)
  | busError (data : Option Word)
  deriving DecidableEq, Repr

/-- AESENG never stops: a bus error is a response (rule R63), an error is a recorded code (rule R203), no command fails after
acceptance (rule R176) and no trap is taken (rule R212). So no fault exists: nothing raises one (log entry 9). -/
inductive Fault where
  deriving DecidableEq, Repr

/-- What the model leaves without a meaning. -/
inductive Refusal where
  /-- Raised by an arm of `exec` for a command that has no meaning yet. Safe: the model stops where the machine goes on. Every
  command has its meaning, so no arm raises it. -/
  | notModelled (mnemonic : String)
  deriving DecidableEq, Repr

end Sys2Proof.Machine

namespace Sys2Proof.Machine

/-- The state of the machine. Each register field has one home; STATUS.IRQ and the interrupt output are computed (rule R31), ID
is a constant (rule R21), CMD holds nothing (rule R33) and RKDATA is a view of `rk` (rule R35). -/
structure State where
  /-- CTRL.KSZ, [1:0] (rule R22). -/
  ksz : BitVec 2
  /-- CTRL.IE_DONE, [4] (rule R22). -/
  ieDone : Bool
  /-- CTRL.IE_ERR, [5] (rule R22). -/
  ieErr : Bool
  /-- STATUS.BUSY, [0] (rule R26). -/
  busy : Bool
  /-- STATUS.DONE, [1] (rule R27). -/
  done : Bool
  /-- STATUS.ERRV, [2] (rule R30). -/
  errv : Bool
  /-- STATUS.KEYVALID, [3] (rule R28). -/
  keyvalid : Bool
  /-- STATUS.ERRCODE, [7:4] (rules R30 and R200). -/
  errcode : ErrorCode
  /-- STATUS.KNR, [11:8] (rule R29). -/
  knr : BitVec 4
  /-- RKADDR.IDX, [5:0] (rule R34). -/
  idx : BitVec 6
  /-- KEY0 to KEY7 (rule R36). -/
  key : Vector Word 8
  /-- DATA0 to DATA3 (rule R39). -/
  data : Vector Word 4
  /-- The round-key RAM RK[0..59] (rule R42). -/
  rk : Vector Word 60
  /-- PEND, the in-flight command record (rule R43). -/
  pend : Option Pending
  /-- MODEL'S OWN: the agent whose step is being taken (rule R6; log entry 4). -/
  agent : Agent
  /-- MODEL'S OWN: what happens next, oldest first (log entry 1). -/
  script : List Event
  /-- MODEL'S OWN: the response to the last host access, none before the first (rule R63; log entry 7). -/
  resp : Option Response
  /-- MODEL'S OWN: how many unspecified words have been drawn (rule R47; log entry 6). -/
  draws : Nat
  deriving DecidableEq, Repr

/-- The machine right after reset (rules R49 and R230): every register 0, PEND none. The spec leaves RK[0..59] unspecified; the
model names zero for them here (log entry 5), and the model's own fields start empty (log entries 1, 4, 6 and 7). -/
def State.reset : State where
  ksz := 0
  ieDone := false
  ieErr := false
  busy := false
  done := false
  errv := false
  keyvalid := false
  errcode := .noError
  knr := 0
  idx := 0
  key := Vector.replicate 8 0
  data := Vector.replicate 4 0
  rk := Vector.replicate 60 0
  pend := none
  agent := .host
  script := []
  resp := none
  draws := 0

end Sys2Proof.Machine
end

