-- ==== Sys2Proof/Machine/Bytes.lean ====
section
/-!
DEFINITION. The byte packing of words, columns and the AES state (spec/00_scope.md rule R10, spec/10_state.md rules R38 to R41,
spec/20_memory.md rule R66): the byte of lowest index sits in bits [31:24].
-/

namespace Sys2Proof.Machine

/-- `bytes(w) = (w.0, w.1, w.2, w.3)` of rule R10. -/
def bytes (w : Word) : Column where
  a0 := w.extractLsb' 24 8
  a1 := w.extractLsb' 16 8
  a2 := w.extractLsb' 8 8
  a3 := w.extractLsb' 0 8

/-- `word(a0, a1, a2, a3) = a0 || a1 || a2 || a3` of rule R10. -/
def word (c : Column) : Word := c.a0 ++ c.a1 ++ c.a2 ++ c.a3

/-- Byte `r` of a column: `bytes(w).r`. -/
def Column.byte (c : Column) : Fin 4 → Byte
  | 0 => c.a0
  | 1 => c.a1
  | 2 => c.a2
  | 3 => c.a3

/-- Column `c` of the state. -/
def Grid.column (S : Grid) : Fin 4 → Column
  | 0 => S.c0
  | 1 => S.c1
  | 2 => S.c2
  | 3 => S.c3

/-- `S[r][c]` of rule R10. -/
def Grid.entry (S : Grid) (r c : Fin 4) : Byte := (S.column c).byte r

/-- A function applied to each byte of a column. -/
def Column.map (f : Byte → Byte) (c : Column) : Column := ⟨f c.a0, f c.a1, f c.a2, f c.a3⟩

/-- A function applied to each column of the state. -/
def Grid.mapColumns (f : Column → Column) (S : Grid) : Grid := ⟨f S.c0, f S.c1, f S.c2, f S.c3⟩

/-- Byte-for-byte exclusive OR of two columns. -/
def Column.xor (c d : Column) : Column := ⟨c.a0 ^^^ d.a0, c.a1 ^^^ d.a1, c.a2 ^^^ d.a2, c.a3 ^^^ d.a3⟩

/-- `toState(DATA0..3)` of rule R41: `S[r][c] = bytes(DATAc).r`. -/
def toGrid (d : Vector Word 4) : Grid := ⟨bytes d[0], bytes d[1], bytes d[2], bytes d[3]⟩

/-- `fromState(S)` of rule R41: `DATAc = word(S[0][c], S[1][c], S[2][c], S[3][c])`. -/
def fromGrid (S : Grid) : Vector Word 4 := #v[word S.c0, word S.c1, word S.c2, word S.c3]

end Sys2Proof.Machine
end

