-- ==== Sys2Proof/Machine/Flags.lean ====
section
/-!
DEFINITION. The control and status fields as words, the interrupt output, and the error codes as numbers (spec/10_state.md rules R22,
R25 and R31; spec/60_exceptions.md rules R200 and R210).
-/

namespace Sys2Proof.Machine

/-- The number of an error code, as ERRCODE holds it (rule R200). -/
def ErrorCode.code : ErrorCode → BitVec 4
  | .noError => 0
  | .illegal => 1
  | .busy => 2
  | .badKsz => 3
  | .noKey => 4
  | .badRki => 5

/-- One bit of a register. -/
def bit (b : Bool) : BitVec 1 := BitVec.ofBool b

/-- The level of the interrupt output, `(DONE & IE_DONE) | (ERRV & IE_ERR)` (rule R210), which STATUS.IRQ reads (rule R31). -/
def State.irq (s : State) : Bool := (s.done && s.ieDone) || (s.errv && s.ieErr)

/-- CTRL as it reads: KSZ [1:0], IE_DONE [4], IE_ERR [5], every other bit 0 (rule R22). -/
def State.ctrlWord (s : State) : Word := 0#26 ++ bit s.ieErr ++ bit s.ieDone ++ 0#2 ++ s.ksz

/-- STATUS as it reads: BUSY [0], DONE [1], ERRV [2], KEYVALID [3], ERRCODE [7:4], KNR [11:8], IRQ [12], every other bit 0 (rule
R25). -/
def State.statusWord (s : State) : Word :=
  0#19 ++ bit s.irq ++ s.knr ++ s.errcode.code ++ bit s.keyvalid ++ bit s.errv ++ bit s.done ++ bit s.busy

/-- RKADDR as it reads: IDX [5:0], every other bit 0 (rule R34). -/
def State.rkaddrWord (s : State) : Word := 0#26 ++ s.idx

end Sys2Proof.Machine
end

