-- ==== Sys2Proof/Machine/Operands.lean ====
section
/-!
DEFINITION. The operands of the commands (spec/30_encoding.md rule R82) and what each command requires of them before it is accepted
(spec/60_exceptions.md rule R205). All are implicit but RKI.
-/

namespace Sys2Proof.Machine

/-- `Nk = 4 + 2 * KSZ`, the key length in words (rules R24 and R128). -/
def nkOf (ksz : BitVec 2) : Nat := 4 + 2 * ksz.toNat

/-- `Nr = Nk + 6`, the rounds of a key size (rules R24 and R128). -/
def nrOf (ksz : BitVec 2) : Nat := nkOf ksz + 6

/-- The key operand of EXPAND: KEY0 .. KEY(Nk-1) at the selected key size (rule R36). -/
def State.keyOperand (s : State) : List Word := s.key.toList.take (nkOf s.ksz)

/-- The block operand: `toState(DATA0..3)` (rules R39 and R41). -/
def State.block (s : State) : Grid := toGrid s.data

/-- The round-count operand of ENCRYPT and DECRYPT: STATUS.KNR, not CTRL.KSZ (rule R29). -/
def State.rounds (s : State) : Nat := s.knr.toNat

/-- EXPAND requires a key size: BADKSZ when CTRL.KSZ = 3 (rule R129). -/
def State.needsKeySize (s : State) : Option ErrorCode := if s.ksz = 3 then some .badKsz else none

/-- ENCRYPT and DECRYPT require an expansion: NOKEY when KEYVALID = 0 (rules R175 and R200). -/
def State.needsKey (s : State) : Option ErrorCode := if s.keyvalid then none else some .noKey

/-- ADDROUNDKEY requires an expansion and then a round key that exists in it: NOKEY, then BADRKI when `i > KNR` (rule R156). -/
def State.needsRoundKey (s : State) (i : BitVec 4) : Option ErrorCode :=
  if s.keyvalid then (if s.knr < i then some .badRki else none) else some .noKey

end Sys2Proof.Machine
end

