-- ==== Sys2Proof/Machine/Ops.lean ====
section
/-!
DEFINITION. The operations every register write and every command is made of: the register updates, raising an error and
acknowledging it (spec/60_exceptions.md rules R203 and R213), the two halves of a command (spec/43_block_cipher.md rules R175 and
R176), and reset (spec/70_reset_and_hazards.md rule R230).
-/

namespace Sys2Proof.Machine

/-- `KEYVALID <- 0` and, in the same step, `KNR <- 0` (rules R28 and R29). -/
def State.dropKey (s : State) : State := { s with keyvalid := false, knr := 0 }

/-- The fields a CTRL write stores: KSZ, IE_DONE and IE_ERR (rule R23). -/
def State.setCtrl (v : Word) (s : State) : State :=
  { s with ksz := v.extractLsb' 0 2, ieDone := v.getLsbD 4, ieErr := v.getLsbD 5 }

/-- `IDX <- v[5:0]` (rule R34). -/
def State.setIdx (v : Word) (s : State) : State := { s with idx := v.extractLsb' 0 6 }

/-- `KEYk <- v` (rule R36). -/
def State.setKey (k : Fin 8) (v : Word) (s : State) : State := { s with key := s.key.set k v }

/-- `DATAk <- v` (rule R39). -/
def State.setData (k : Fin 4) (v : Word) (s : State) : State := { s with data := s.data.set k v }

/-- `DATA0..3 <- fromState(S)` (rules R41 and R176). -/
def State.setBlock (S : Grid) (s : State) : State := { s with data := fromGrid S }

/-- `RK[j] <- w[j]` for j in 0 .. 4 * (Nr + 1) - 1, the RAM's other words kept, with `KEYVALID <- 1` and `KNR <- Nr` (rules R42 and
R128). -/
def State.loadKeys (w : List Word) (nr : Nat) (s : State) : State :=
  { s with rk := Vector.ofFn fun j => if j.val < 4 * (nr + 1) then w.getD j 0 else s.rk[j], keyvalid := true, knr := BitVec.ofNat 4 nr }

/-- `KEY0..7 <- 0; DATA0..3 <- 0; RK[0..59] <- 0` (rule R191). -/
def State.wipe (s : State) : State :=
  { s with key := Vector.replicate 8 0, data := Vector.replicate 4 0, rk := Vector.replicate 60 0 }

/-- The error record set to a code: `ERRV <- 1; ERRCODE <- e`. -/
def State.recordError (e : ErrorCode) (s : State) : State := { s with errv := true, errcode := e }

/-- `raise Error(e)` (rule R203): the one operation that takes an error. The first error wins: a record already set is kept (rule
R30). Nothing else changes, and the caller does nothing further. -/
def State.raise (e : ErrorCode) (s : State) : State := if s.errv then s else s.recordError e

/-- `DONE <- 0` (rule R32). -/
def State.clearDone (s : State) : State := { s with done := false }

/-- `ERRV <- 0; ERRCODE <- 0` (rule R32). -/
def State.clearError (s : State) : State := { s with errv := false, errcode := .noError }

/-- The host's acknowledgement, its return from an error or a completion (rules R32 and R213): v[1] clears DONE and v[2] clears the
error record. It acts at any value of BUSY and records no error. -/
def State.acknowledge (v : Word) (s : State) : State :=
  let s := if v.getLsbD 1 then s.clearDone else s
  if v.getLsbD 2 then s.clearError else s

/-- Whether the acceptance of a command drops the expansion: for EXPAND and CLEAR only (rule R175). -/
def Pending.dropsKey : Pending → Bool
  | .expand _ _ _ | .clear => true
  | .nop | .encrypt _ _ | .decrypt _ _ | .subBytes _ | .invSubBytes _ | .shiftRows _ | .invShiftRows _ | .mixColumns _
  | .invMixColumns _ | .addRoundKey _ _ => false

/-- `PEND <- p; BUSY <- 1; DONE <- 0`. -/
def State.startCommand (p : Pending) (s : State) : State := { s with pend := some p, busy := true, done := false }

/-- Acceptance, when every check has passed (rule R175): the inputs captured in `p`, BUSY 1 and DONE 0, and, for EXPAND and CLEAR
only, KEYVALID 0 and KNR 0. -/
def State.accept (p : Pending) (s : State) : State :=
  (if p.dropsKey then s.dropKey else s).startCommand p

/-- The host half of a command whose word has decoded (rules R86 and R175): BUSY is checked first, then the command's own
precondition; an error is raised and nothing else happens, or the command is accepted with its inputs `p`. -/
def State.issue (precondition : Option ErrorCode) (p : Pending) (s : State) : State :=
  if s.busy then s.raise .busy
  else match precondition with
    | some e => s.raise e
    | none => s.accept p

/-- The end of a completion, its results written: `BUSY <- 0; DONE <- 1; PEND <- none` (rule R176). -/
def State.complete (s : State) : State := { s with busy := false, done := true, pend := none }

/-- The command of an in-flight record: its OPC and RKI (rule R43). -/
def Pending.instr : Pending → Instr
  | .nop => .nop
  | .expand _ _ _ => .expand
  | .encrypt _ _ => .encrypt
  | .decrypt _ _ => .decrypt
  | .clear => .clear
  | .subBytes _ => .subBytes
  | .invSubBytes _ => .invSubBytes
  | .shiftRows _ => .shiftRows
  | .invShiftRows _ => .invShiftRows
  | .mixColumns _ => .mixColumns
  | .invMixColumns _ => .invMixColumns
  | .addRoundKey _ i => .addRoundKey i

/-- An unspecified word: the next free value (rule R47; log entry 6). -/
def State.freeWord (s : State) : Word := Config.freeWord s.draws

/-- `n` more free values drawn. -/
def State.draw (n : Nat) (s : State) : State := { s with draws := s.draws + n }

/-- The response to an access becomes visible to the host (log entry 7). -/
def State.respond (r : Response) (s : State) : State := { s with resp := some r }

/-- The next event leaves the schedule and `g` takes its step (log entries 1 and 4). -/
def State.turn (g : Agent) (rest : List Event) (s : State) : State := { s with agent := g, script := rest }

/-- Reset, one atomic step (rule R230): every register takes the value of rule R49, a command in flight is abandoned (rule R231), and
the round-key RAM holds sixty unspecified words (log entry 5). The events to come stay, no response is pending, and later draws are
fresh. -/
def State.resetNow (s : State) : State :=
  { State.reset with
    rk := Vector.ofFn fun j => Config.freeWord (s.draws + j)
    script := s.script
    draws := s.draws + 60 }

end Sys2Proof.Machine
end

