-- ==== Sys2Proof/Machine/Field.lean ====
section
/-!
DEFINITION. Arithmetic in GF(2^8) with the reduction polynomial 0x11B (spec/40_field_and_tables.md rules R100 to R103).
-/

namespace Sys2Proof.Machine

/-- The shifted first operand of rule R101: kept to 8 bits, with 0x1B folded in when its high bit was set before the shift. -/
def shiftReduce (a : Byte) : Byte :=
  if a.getLsbD 7 then (a <<< 1) ^^^ 0x1B else a <<< 1

/-- `n` iterations of rule R101's multiply-and-reduce, from the accumulator `acc` and the operands `a` and `b`. -/
def gmulLoop : Nat → Byte → Byte → Byte → Byte
  | 0, acc, _, _ => acc
  | n + 1, acc, a, b => gmulLoop n (if b.getLsbD 0 then acc ^^^ a else acc) (shiftReduce a) (b >>> 1)

/-- `gmul(a, b) = a • b`, eight iterations (rule R101). -/
def gmul (a b : Byte) : Byte := gmulLoop 8 0 a b

/-- `xtime(a) = gmul(a, 0x02)` (rule R102). -/
def xtime (a : Byte) : Byte := gmul a 0x02

end Sys2Proof.Machine
end

