-- ==== Sys2Proof/Machine/Tables.lean ====
section
/-!
DEFINITION. The constant tables (spec/40_field_and_tables.md rules R104 to R109): the S-box, its inverse, the round constants and the
two mix matrices. They are constants, not state (spec/10_state.md rule R46). A row of an S-box table is written as the spec prints
it, sixteen bytes side by side, column 0 first.
-/

namespace Sys2Proof.Machine

/-- The S-box table of rule R104, one row per high nibble. -/
def sboxRows : List (BitVec 128) :=
  [0x637c777bf26b6fc53001672bfed7ab76,
   0xca82c97dfa5947f0add4a2af9ca472c0,
   0xb7fd9326363ff7cc34a5e5f171d83115,
   0x04c723c31896059a071280e2eb27b275,
   0x09832c1a1b6e5aa0523bd6b329e32f84,
   0x53d100ed20fcb15b6acbbe394a4c58cf,
   0xd0efaafb434d338545f9027f503c9fa8,
   0x51a3408f929d38f5bcb6da2110fff3d2,
   0xcd0c13ec5f974417c4a77e3d645d1973,
   0x60814fdc222a908846eeb814de5e0bdb,
   0xe0323a0a4906245cc2d3ac629195e479,
   0xe7c8376d8dd54ea96c56f4ea657aae08,
   0xba78252e1ca6b4c6e8dd741f4bbd8b8a,
   0x703eb5664803f60e613557b986c11d9e,
   0xe1f8981169d98e949b1e87e9ce5528df,
   0x8ca1890dbfe6426841992d0fb054bb16]

/-- The inverse S-box table of rule R106, one row per high nibble. -/
def invSboxRows : List (BitVec 128) :=
  [0x52096ad53036a538bf40a39e81f3d7fb,
   0x7ce339829b2fff87348e4344c4dee9cb,
   0x547b9432a6c2233dee4c950b42fac34e,
   0x082ea16628d924b2765ba2496d8bd125,
   0x72f8f66486689816d4a45ccc5d65b692,
   0x6c704850fdedb9da5e154657a78d9d84,
   0x90d8ab008cbcd30af7e45805b8b34506,
   0xd02c1e8fca3f0f02c1afbd0301138a6b,
   0x3a9111414f67dcea97f2cfcef0b4e673,
   0x96ac7422e7ad3585e2f937e81c75df6e,
   0x47f11a711d29c5896fb7620eaa18be1b,
   0xfc563e4bc6d279209adbc0fe78cd5af4,
   0x1fdda8338807c731b11210592780ec5f,
   0x60517fa919b54a0d2de57a9f93c99cef,
   0xa0e03b4dae2af5b0c8ebbb3c83539961,
   0x172b047eba77d626e169146355210c7d]

/-- The entry of a table for byte `x`: its row is the high nibble of `x`, its column the low nibble (rules R104 and R106). -/
def tableByte (rows : List (BitVec 128)) (x : Byte) : Byte :=
  (rows.getD (x.toNat / 16) 0).extractLsb' (8 * (15 - x.toNat % 16)) 8

/-- `SBOX[x]` (rule R104). -/
def sbox (x : Byte) : Byte := tableByte sboxRows x

/-- `INV_SBOX[y]` (rule R106). -/
def invSbox (y : Byte) : Byte := tableByte invSboxRows y

/-- `Rcon[j + 1]`: `Rcon[1] = 0x01` and `Rcon[j + 1] = xtime(Rcon[j])` (rule R107). -/
def rconFrom : Nat → Byte
  | 0 => 0x01
  | j + 1 => xtime (rconFrom j)

/-- `Rcon[j]` for j from 1 to 10 (rule R107). The key schedule uses no other index. -/
def rcon (j : Nat) : Byte := rconFrom (j - 1)

/-- A 4×4 matrix over GF(2^8), by its rows. -/
abbrev Matrix4 := Vector Column 4

/-- The MixColumns matrix `M` (rule R108). -/
def mixMatrix : Matrix4 :=
  #v[⟨0x02, 0x03, 0x01, 0x01⟩,
     ⟨0x01, 0x02, 0x03, 0x01⟩,
     ⟨0x01, 0x01, 0x02, 0x03⟩,
     ⟨0x03, 0x01, 0x01, 0x02⟩]

/-- The InvMixColumns matrix `Minv` (rule R109). -/
def invMixMatrix : Matrix4 :=
  #v[⟨0x0E, 0x0B, 0x0D, 0x09⟩,
     ⟨0x09, 0x0E, 0x0B, 0x0D⟩,
     ⟨0x0D, 0x09, 0x0E, 0x0B⟩,
     ⟨0x0B, 0x0D, 0x09, 0x0E⟩]

end Sys2Proof.Machine
end

