-- ==== Sys2Proof/Machine/Transforms.lean ====
section
/-!
DEFINITION. The four round transforms and their inverses, as functions of the state `S` (spec/42_round_transforms.md rules R140 to
R146).
-/

namespace Sys2Proof.Machine

/-- `SubBytes(S)`: every byte becomes its S-box image (rule R140). -/
def subBytes (S : Grid) : Grid := S.mapColumns (Column.map sbox)

/-- `InvSubBytes(S)`: every byte becomes its inverse-S-box image (rule R141). -/
def invSubBytes (S : Grid) : Grid := S.mapColumns (Column.map invSbox)

/-- `ShiftRows(S)`: `S'[r][c] = S[r][(c + r) mod 4]` (rule R142). -/
def shiftRows (S : Grid) : Grid where
  c0 := ⟨S.c0.a0, S.c1.a1, S.c2.a2, S.c3.a3⟩
  c1 := ⟨S.c1.a0, S.c2.a1, S.c3.a2, S.c0.a3⟩
  c2 := ⟨S.c2.a0, S.c3.a1, S.c0.a2, S.c1.a3⟩
  c3 := ⟨S.c3.a0, S.c0.a1, S.c1.a2, S.c2.a3⟩

/-- `InvShiftRows(S)`: `S'[r][c] = S[r][(c - r) mod 4]` (rule R143). -/
def invShiftRows (S : Grid) : Grid where
  c0 := ⟨S.c0.a0, S.c3.a1, S.c2.a2, S.c1.a3⟩
  c1 := ⟨S.c1.a0, S.c0.a1, S.c3.a2, S.c2.a3⟩
  c2 := ⟨S.c2.a0, S.c1.a1, S.c0.a2, S.c3.a3⟩
  c3 := ⟨S.c3.a0, S.c2.a1, S.c1.a2, S.c0.a3⟩

/-- A matrix row times a column: `gmul(m0, s0) ^ gmul(m1, s1) ^ gmul(m2, s2) ^ gmul(m3, s3)` (rule R144). -/
def dot (row c : Column) : Byte :=
  gmul row.a0 c.a0 ^^^ gmul row.a1 c.a1 ^^^ gmul row.a2 c.a2 ^^^ gmul row.a3 c.a3

/-- A matrix times a column (rules R144 and R145). -/
def mulColumn (m : Matrix4) (c : Column) : Column := ⟨dot m[0] c, dot m[1] c, dot m[2] c, dot m[3] c⟩

/-- `MixColumns(S)`: each column times `M` (rule R144). -/
def mixColumns (S : Grid) : Grid := S.mapColumns (mulColumn mixMatrix)

/-- `InvMixColumns(S)`: each column times `Minv` (rule R145). -/
def invMixColumns (S : Grid) : Grid := S.mapColumns (mulColumn invMixMatrix)

/-- `RK[j]`. The RAM ends at word 59; no run asks for a word past it, and one reads as zero (log entry 12). -/
def rkWord (rk : Vector Word 60) (j : Nat) : Word := rk.getD j 0

/-- Round key `i`: the words `RK[4i]` to `RK[4i + 3]` as four columns (rules R42 and R146). -/
def roundKey (rk : Vector Word 60) (i : Nat) : Grid :=
  ⟨bytes (rkWord rk (4 * i)), bytes (rkWord rk (4 * i + 1)), bytes (rkWord rk (4 * i + 2)), bytes (rkWord rk (4 * i + 3))⟩

/-- `AddRoundKey(S, i)`: `S'[r][c] = S[r][c] ^ bytes(RK[4i + c]).r` (rule R146). -/
def addRoundKey (rk : Vector Word 60) (i : Nat) (S : Grid) : Grid :=
  let k := roundKey rk i
  ⟨S.c0.xor k.c0, S.c1.xor k.c1, S.c2.xor k.c2, S.c3.xor k.c3⟩

end Sys2Proof.Machine
end

