-- ==== Sys2Proof/Machine/Rounds.lean ====
section
/-!
DEFINITION. The round controller's two functions (spec/43_block_cipher.md rules R170 to R173). The round counter is working storage
(rule R44), so each function is one computation (log entry 17).
-/

namespace Sys2Proof.Machine

/-- Round `r` of `Cipher`: SubBytes, ShiftRows, MixColumns, AddRoundKey `r` (rule R171). -/
def cipherRound (rk : Vector Word 60) (r : Nat) (S : Grid) : Grid :=
  addRoundKey rk r (mixColumns (shiftRows (subBytes S)))

/-- Rounds 1 to `n` of `Cipher`, in that order. -/
def cipherRounds (rk : Vector Word 60) : Nat → Grid → Grid
  | 0, S => S
  | n + 1, S => cipherRound rk (n + 1) (cipherRounds rk n S)

/-- `Cipher(S, Nr)`: AddRoundKey 0, the rounds 1 to Nr - 1, and the final round without MixColumns (rule R171). -/
def cipher (rk : Vector Word 60) (nr : Nat) (S : Grid) : Grid :=
  addRoundKey rk nr (shiftRows (subBytes (cipherRounds rk (nr - 1) (addRoundKey rk 0 S))))

/-- Step `r` of `InvCipher`: InvShiftRows, InvSubBytes, AddRoundKey `r`, InvMixColumns (rule R172). -/
def invCipherRound (rk : Vector Word 60) (r : Nat) (S : Grid) : Grid :=
  invMixColumns (addRoundKey rk r (invSubBytes (invShiftRows S)))

/-- Steps `n` down to 1 of `InvCipher`, in that order. -/
def invCipherRounds (rk : Vector Word 60) : Nat → Grid → Grid
  | 0, S => S
  | n + 1, S => invCipherRounds rk n (invCipherRound rk (n + 1) S)

/-- `InvCipher(S, Nr)`: AddRoundKey Nr, the steps Nr - 1 down to 1, and InvShiftRows, InvSubBytes, AddRoundKey 0 (rule R172). -/
def invCipher (rk : Vector Word 60) (nr : Nat) (S : Grid) : Grid :=
  addRoundKey rk 0 (invSubBytes (invShiftRows (invCipherRounds rk (nr - 1) (addRoundKey rk nr S))))

end Sys2Proof.Machine
end

