-- ==== Sys2Proof/Machine/BlockCipher.lean ====
section
/-!
DEFINITION. The ENCRYPT and DECRYPT commands (spec/43_block_cipher.md rules R177 and R178). Each meaning has two halves. On the host's step it is
the CMD write that issues the command: the error of the first failing check, or the acceptance. On the engine's step it is the
completion of the command in flight, and nothing where another command or none is in flight, since completion is enabled only for
the record PEND holds (log entries 4 and 16).
-/

namespace Sys2Proof.Machine

/-- ENCRYPT (rule R177): acceptance needs an expansion (NOKEY) and captures DATA0..3 and KNR; completion writes
`Cipher(block, KNR)` to DATA0..3. -/
def execEncrypt (s : State) : Host.Outcome State Fault Refusal :=
  match s.agent, s.pend with
  | .host, _ => .next (s.issue s.needsKey (.encrypt s.block s.rounds))
  | .engine, some (.encrypt blk nr) => .next ((s.setBlock (cipher s.rk nr blk)).complete)
  | .engine, _ => .next s

/-- DECRYPT (rule R178): acceptance needs an expansion (NOKEY) and captures DATA0..3 and KNR; completion writes
`InvCipher(block, KNR)` to DATA0..3. -/
def execDecrypt (s : State) : Host.Outcome State Fault Refusal :=
  match s.agent, s.pend with
  | .host, _ => .next (s.issue s.needsKey (.decrypt s.block s.rounds))
  | .engine, some (.decrypt blk nr) => .next ((s.setBlock (invCipher s.rk nr blk)).complete)
  | .engine, _ => .next s

end Sys2Proof.Machine
end

