-- ==== Sys2Proof/Machine/Control.lean ====
section
/-!
DEFINITION. The control commands (spec/44_control_commands.md rules R190 and R191). Each meaning has two halves. On the host's step it is
the CMD write that issues the command: the error of the first failing check, or the acceptance. On the engine's step it is the
completion of the command in flight, and nothing where another command or none is in flight, since completion is enabled only for
the record PEND holds (log entries 4 and 16).
-/

namespace Sys2Proof.Machine

/-- NOP (rule R190): the command handshake and nothing else. -/
def execNop (s : State) : Host.Outcome State Fault Refusal :=
  match s.agent, s.pend with
  | .host, _ => .next (s.issue none .nop)
  | .engine, some .nop => .next (s.complete)
  | .engine, _ => .next s

/-- CLEAR (rule R191): acceptance drops the expansion; completion zeroes KEY0..7, DATA0..3 and RK[0..59]. -/
def execClear (s : State) : Host.Outcome State Fault Refusal :=
  match s.agent, s.pend with
  | .host, _ => .next (s.issue none .clear)
  | .engine, some .clear => .next (s.wipe.complete)
  | .engine, _ => .next s

end Sys2Proof.Machine
end

