-- ==== Sys2Proof/Machine/KeySchedule.lean ====
section
/-!
DEFINITION. The key schedule (spec/41_keyschedule.md rules R120 to R127).
-/

namespace Sys2Proof.Machine

/-- `RotWord`: the word rotates by one byte towards its first byte (rule R121). -/
def rotWord (w : Word) : Word :=
  let c := bytes w
  word ⟨c.a1, c.a2, c.a3, c.a0⟩

/-- `SubWord`: the S-box on each byte of a word (rule R122). -/
def subWord (w : Word) : Word := word ((bytes w).map sbox)

/-- `word(Rcon[j], 0x00, 0x00, 0x00)` (rule R123). -/
def rconWord (j : Nat) : Word := word ⟨rcon j, 0x00, 0x00, 0x00⟩

/-- The transform of the preceding word at index `i`: rotation, substitution and round constant at the multiples of Nk (rule R123),
substitution alone halfway through a window of Nk = 8 (rule R124), and nothing elsewhere (rule R125). -/
def scheduleStep (nk i : Nat) (t : Word) : Word :=
  if i % nk = 0 then subWord (rotWord t) ^^^ rconWord (i / nk)
  else if nk = 8 ∧ i % nk = 4 then subWord t
  else t

/-- The word that follows the words `w` of an expansion: `w[i - Nk] ^ t` for `i` the number of words so far (rule R125). -/
def nextWord (nk : Nat) (w : List Word) : Word :=
  let i := w.length
  w.getD (i - nk) 0 ^^^ scheduleStep nk i (w.getD (i - 1) 0)

/-- `n` more words of an expansion. -/
def growSchedule (nk : Nat) : Nat → List Word → List Word
  | 0, w => w
  | n + 1, w => growSchedule nk n (w ++ [nextWord nk w])

/-- `KeyExpansion(k, Nk, Nr)`: the raw key, then words up to `4 * (Nr + 1)` in all (rules R125 and R126). -/
def keyExpansion (k : List Word) (nk nr : Nat) : List Word :=
  growSchedule nk (4 * (nr + 1) - nk) k

end Sys2Proof.Machine
end

