-- ==== Sys2Proof/Machine/Expand.lean ====
section
/-!
DEFINITION. The EXPAND command (spec/41_keyschedule.md rules R128 and R129). Each meaning has two halves. On the host's step it is
the CMD write that issues the command: the error of the first failing check, or the acceptance. On the engine's step it is the
completion of the command in flight, and nothing where another command or none is in flight, since completion is enabled only for
the record PEND holds (log entries 4 and 16).
-/

namespace Sys2Proof.Machine

/-- EXPAND (rules R128 and R129): acceptance needs a key size (BADKSZ), captures KEY0 .. KEY(Nk-1), Nk and Nr, and drops the expansion
held; completion writes the new expansion to RK and sets KEYVALID and KNR. -/
def execExpand (s : State) : Host.Outcome State Fault Refusal :=
  match s.agent, s.pend with
  | .host, _ => .next (s.issue s.needsKeySize (.expand s.keyOperand (nkOf s.ksz) (nrOf s.ksz)))
  | .engine, some (.expand k nk nr) => .next ((s.loadKeys (keyExpansion k nk nr) nr).complete)
  | .engine, _ => .next s

end Sys2Proof.Machine
end

