-- ==== Sys2Proof/Machine/Primitive.lean ====
section
/-!
DEFINITION. The seven primitive commands (spec/42_round_transforms.md rules R149 to R156). Each meaning has two halves. On the host's step it is
the CMD write that issues the command: the error of the first failing check, or the acceptance. On the engine's step it is the
completion of the command in flight, and nothing where another command or none is in flight, since completion is enabled only for
the record PEND holds (log entries 4 and 16).
-/

namespace Sys2Proof.Machine

/-- SUBBYTES (rules R149 and R150): acceptance captures DATA0..3 and needs no key; completion writes `SubBytes(block)` to
DATA0..3. -/
def execSubBytes (s : State) : Host.Outcome State Fault Refusal :=
  match s.agent, s.pend with
  | .host, _ => .next (s.issue none (.subBytes s.block))
  | .engine, some (.subBytes blk) => .next ((s.setBlock (subBytes blk)).complete)
  | .engine, _ => .next s

/-- INVSUBBYTES (rules R149 and R151): acceptance captures DATA0..3 and needs no key; completion writes `InvSubBytes(block)` to
DATA0..3. -/
def execInvSubBytes (s : State) : Host.Outcome State Fault Refusal :=
  match s.agent, s.pend with
  | .host, _ => .next (s.issue none (.invSubBytes s.block))
  | .engine, some (.invSubBytes blk) => .next ((s.setBlock (invSubBytes blk)).complete)
  | .engine, _ => .next s

/-- SHIFTROWS (rules R149 and R152): acceptance captures DATA0..3 and needs no key; completion writes `ShiftRows(block)` to
DATA0..3. -/
def execShiftRows (s : State) : Host.Outcome State Fault Refusal :=
  match s.agent, s.pend with
  | .host, _ => .next (s.issue none (.shiftRows s.block))
  | .engine, some (.shiftRows blk) => .next ((s.setBlock (shiftRows blk)).complete)
  | .engine, _ => .next s

/-- INVSHIFTROWS (rules R149 and R153): acceptance captures DATA0..3 and needs no key; completion writes `InvShiftRows(block)` to
DATA0..3. -/
def execInvShiftRows (s : State) : Host.Outcome State Fault Refusal :=
  match s.agent, s.pend with
  | .host, _ => .next (s.issue none (.invShiftRows s.block))
  | .engine, some (.invShiftRows blk) => .next ((s.setBlock (invShiftRows blk)).complete)
  | .engine, _ => .next s

/-- MIXCOLUMNS (rules R149 and R154): acceptance captures DATA0..3 and needs no key; completion writes `MixColumns(block)` to
DATA0..3. -/
def execMixColumns (s : State) : Host.Outcome State Fault Refusal :=
  match s.agent, s.pend with
  | .host, _ => .next (s.issue none (.mixColumns s.block))
  | .engine, some (.mixColumns blk) => .next ((s.setBlock (mixColumns blk)).complete)
  | .engine, _ => .next s

/-- INVMIXCOLUMNS (rules R149 and R155): acceptance captures DATA0..3 and needs no key; completion writes `InvMixColumns(block)` to
DATA0..3. -/
def execInvMixColumns (s : State) : Host.Outcome State Fault Refusal :=
  match s.agent, s.pend with
  | .host, _ => .next (s.issue none (.invMixColumns s.block))
  | .engine, some (.invMixColumns blk) => .next ((s.setBlock (invMixColumns blk)).complete)
  | .engine, _ => .next s

/-- ADDROUNDKEY (rules R149 and R156): acceptance needs an expansion (NOKEY) that holds round key `rki` (BADRKI) and captures DATA0..3
and the index; completion writes `AddRoundKey(block, rki)` to DATA0..3. -/
def execAddRoundKey (rki : BitVec 4) (s : State) : Host.Outcome State Fault Refusal :=
  match s.agent, s.pend with
  | .host, _ => .next (s.issue (s.needsRoundKey rki) (.addRoundKey s.block rki))
  | .engine, some (.addRoundKey blk i) =>
    if i = rki then .next (s.setBlock (addRoundKey s.rk i.toNat blk)).complete else .next s
  | .engine, _ => .next s

end Sys2Proof.Machine
end

