-- ==== Sys2Proof/WellFormed.lean ====
section
/-!
DEFINITION. Which command words are well-formed: the three checks of spec/30_encoding.md rule R84, written over the raw word with
masks and comparisons, independently of the decoder's field extraction (Decode.lean). A term of `Instr` needs no check: RKI is four
bits by its type, and no other constructor carries an operand.
-/

namespace Sys2Proof

/-- Check (1) of rule R84: bits [7:0] are one of the twelve opcodes, which are 0x00 to 0x04 and 0x10 to 0x16. -/
def opcodeListed (v : Word) : Bool :=
  let opc := v.toNat % 256
  opc ≤ 0x04 || (0x10 ≤ opc && opc ≤ 0x16)

/-- Check (2) of rule R84: the reserved field, bits [31:12], is zero. -/
def reservedZero (v : Word) : Bool :=
  v &&& 0xFFFFF000 == 0

/-- Check (3) of rule R84: RKI, bits [11:8], is zero unless the opcode is 0x16. -/
def rkiAllowed (v : Word) : Bool :=
  v &&& 0x00000F00 == 0 || v &&& 0x000000FF == 0x16

/-- A command word is well-formed when all three checks pass (rule R84). -/
def wordWellFormed (v : Word) : Bool :=
  opcodeListed v && reservedZero v && rkiAllowed v

end Sys2Proof
end

