-- ==== Sys2Proof/Decode.lean ====
section
/-!
DEFINITION. The command decoder and encoder (spec/30_encoding.md rules R80 to R90). Every command is one 32-bit word with the
fields OPC = [7:0], RKI = [11:8] and RSV = [31:12]. Decoding is total: a word is a command or is rejected by name, and every
rejection is the one error ILLEGAL to the host.
-/

namespace Sys2Proof

/-- OPC = CMD[7:0] (rule R80). -/
def opcField (v : Word) : Byte := v.extractLsb' 0 8

/-- RKI = CMD[11:8] (rules R80 and R82). -/
def rkiField (v : Word) : BitVec 4 := v.extractLsb' 8 4

/-- RSV = CMD[31:12] (rule R80). -/
def rsvField (v : Word) : BitVec 20 := v.extractLsb' 12 20

/-- Why a word is no command of interface version 1 (rules R84 and R85). All three raise the error ILLEGAL. -/
inductive Reject where
  /-- RSV is not zero. -/
  | reservedField
  /-- The opcode is one of the reserved 0x05 to 0x0F and 0x17 to 0xFF. -/
  | reservedOpcode
  /-- RKI is not zero on an opcode other than ADDROUNDKEY. -/
  | strayRki
  deriving DecidableEq, Repr

/-- A command without an operand: RKI must be zero (rule R84 check 3). -/
def withoutRki (rki : BitVec 4) (i : Instr) : Except Reject Instr :=
  if rki = 0 then .ok i else .error .strayRki

/-- The command of opcode `opc` with RKI `rki` (rule R83's opcode map). -/
def decodeOpcode (opc : Byte) (rki : BitVec 4) : Except Reject Instr :=
  match opc.toNat with
  | 0x00 => withoutRki rki .nop
  | 0x01 => withoutRki rki .expand
  | 0x02 => withoutRki rki .encrypt
  | 0x03 => withoutRki rki .decrypt
  | 0x04 => withoutRki rki .clear
  | 0x10 => withoutRki rki .subBytes
  | 0x11 => withoutRki rki .invSubBytes
  | 0x12 => withoutRki rki .shiftRows
  | 0x13 => withoutRki rki .invShiftRows
  | 0x14 => withoutRki rki .mixColumns
  | 0x15 => withoutRki rki .invMixColumns
  | 0x16 => .ok (.addRoundKey rki)
  | _ => .error .reservedOpcode

/-- The decoder of rule R84, its checks in the rule's order: RSV, then the opcode, then RKI. -/
def decode (v : Word) : Except Reject Instr :=
  if rsvField v ≠ 0 then .error .reservedField else decodeOpcode (opcField v) (rkiField v)

/-- The opcode of a command (rule R83). -/
def Instr.opcode : Instr → Byte
  | .nop => 0x00
  | .expand => 0x01
  | .encrypt => 0x02
  | .decrypt => 0x03
  | .clear => 0x04
  | .subBytes => 0x10
  | .invSubBytes => 0x11
  | .shiftRows => 0x12
  | .invShiftRows => 0x13
  | .mixColumns => 0x14
  | .invMixColumns => 0x15
  | .addRoundKey _ => 0x16

/-- The RKI field of a command: zero but for ADDROUNDKEY (rule R88). -/
def Instr.rki : Instr → BitVec 4
  | .addRoundKey i => i
  | .nop | .expand | .encrypt | .decrypt | .clear | .subBytes | .invSubBytes | .shiftRows | .invShiftRows | .mixColumns
  | .invMixColumns => 0

/-- The word of a command: RSV, RKI and OPC side by side (rules R80 and R88). -/
def encode (i : Instr) : Word := 0#20 ++ i.rki ++ i.opcode

/-- A row of the opcode map: a word `w` belongs to it when `w &&& mask = value` (rule R83). -/
structure OpcodeRow where
  /-- The mnemonic of the row. -/
  mnemonic : String
  /-- The fixed bits' values, the column "match" of the table. -/
  value : Word
  /-- Which bits are fixed. -/
  mask : Word
  deriving DecidableEq, Repr

/-- The opcode map of rule R83, a copy of its match and mask columns and of spec/opcode_table.json. -/
def opcodeRows : List OpcodeRow :=
  [⟨"NOP", 0x00000000, 0xFFFFFFFF⟩,
   ⟨"EXPAND", 0x00000001, 0xFFFFFFFF⟩,
   ⟨"ENCRYPT", 0x00000002, 0xFFFFFFFF⟩,
   ⟨"DECRYPT", 0x00000003, 0xFFFFFFFF⟩,
   ⟨"CLEAR", 0x00000004, 0xFFFFFFFF⟩,
   ⟨"SUBBYTES", 0x00000010, 0xFFFFFFFF⟩,
   ⟨"INVSUBBYTES", 0x00000011, 0xFFFFFFFF⟩,
   ⟨"SHIFTROWS", 0x00000012, 0xFFFFFFFF⟩,
   ⟨"INVSHIFTROWS", 0x00000013, 0xFFFFFFFF⟩,
   ⟨"MIXCOLUMNS", 0x00000014, 0xFFFFFFFF⟩,
   ⟨"INVMIXCOLUMNS", 0x00000015, 0xFFFFFFFF⟩,
   ⟨"ADDROUNDKEY", 0x00000016, 0xFFFFF0FF⟩]

/-- Row membership of a word (rule R83). -/
def OpcodeRow.covers (r : OpcodeRow) (v : Word) : Bool := v &&& r.mask == r.value

/-- The mnemonic of a command (rules R83 and R88). -/
def Instr.mnemonic : Instr → String
  | .nop => "NOP"
  | .expand => "EXPAND"
  | .encrypt => "ENCRYPT"
  | .decrypt => "DECRYPT"
  | .clear => "CLEAR"
  | .subBytes => "SUBBYTES"
  | .invSubBytes => "INVSUBBYTES"
  | .shiftRows => "SHIFTROWS"
  | .invShiftRows => "INVSHIFTROWS"
  | .mixColumns => "MIXCOLUMNS"
  | .invMixColumns => "INVMIXCOLUMNS"
  | .addRoundKey _ => "ADDROUNDKEY"

/-- The command word that the low `nbits` bits of `w` spell, every bit above them zero (a command is one 32-bit word, rule R81). -/
def tableWord (nbits w : Nat) : Word := BitVec.ofNat 32 (w % 2 ^ nbits)

/-- The decoder on a word given by its bits, as spec/opcode_table.json numbers them. A command is one CMD write of 32 bits, so the
number is the word itself, and a number that does not fit 32 bits is no command word (rules R80 and R81). -/
def decodeTableWord (nbits w : Nat) : Option Instr :=
  if w % 2 ^ nbits < 2 ^ 32 then
    match decode (tableWord nbits w) with
    | .ok i => some i
    | .error _ => none
  else none

end Sys2Proof
end

