-- ==== Sys2Proof/Machine/Bus.lean ====
section
/-!
DEFINITION. Host accesses to the register window (spec/10_state.md rules R20 to R48, spec/20_memory.md rules R60 to R76). A read
answers a word and changes no register. The write of CMD is not here: it issues a command (Fetch.lean).
-/

namespace Sys2Proof.Machine

/-- The registers of the window (rule R20). -/
inductive Reg where
  | id
  | ctrl
  | status
  | cmd
  | rkaddr
  | rkdata
  | key (k : Fin 8)
  | data (k : Fin 4)
  deriving DecidableEq, Repr

/-- The register map of rule R20. Every other offset is reserved or not a multiple of 4. -/
def regAt (off : BitVec 8) : Option Reg :=
  match off.toNat with
  | 0x00 => some .id
  | 0x04 => some .ctrl
  | 0x08 => some .status
  | 0x0C => some .cmd
  | 0x10 => some .rkaddr
  | 0x14 => some .rkdata
  | 0x20 => some (.key 0)
  | 0x24 => some (.key 1)
  | 0x28 => some (.key 2)
  | 0x2C => some (.key 3)
  | 0x30 => some (.key 4)
  | 0x34 => some (.key 5)
  | 0x38 => some (.key 6)
  | 0x3C => some (.key 7)
  | 0x40 => some (.data 0)
  | 0x44 => some (.data 1)
  | 0x48 => some (.data 2)
  | 0x4C => some (.data 3)
  | _ => none

/-- The offset of a register (rule R20). -/
def Reg.offset : Reg → BitVec 8
  | .id => 0x00
  | .ctrl => 0x04
  | .status => 0x08
  | .cmd => 0x0C
  | .rkaddr => 0x10
  | .rkdata => 0x14
  | .key k => 0x20 + 4 * BitVec.ofNat 8 k
  | .data k => 0x40 + 4 * BitVec.ofNat 8 k

/-- The register an access reaches: a 32-bit access at the offset of one. None is the bus error of rule R63: a reserved offset, a
width other than 32 bits, or an offset that is not a multiple of 4. -/
def target (bits : Nat) (off : BitVec 8) : Option Reg := if bits = 32 then regAt off else none

/-- ID, ASCII "AES" and interface version 1 (rules R3 and R21). -/
def idWord : Word := 0x41455301

/-- Whether a read returns an unspecified word: KEY, DATA or RKDATA while BUSY = 1 (rule R47). -/
def State.unspecifiedRead (s : State) : Reg → Bool
  | .rkdata | .key _ | .data _ => s.busy
  | .id | .ctrl | .status | .cmd | .rkaddr => false

/-- What RKDATA reads while BUSY = 0: the round-key word at IDX when it belongs to the expansion held, and 0 otherwise (rule R35). -/
def State.rkdataWord (s : State) : Word :=
  if s.keyvalid ∧ s.idx.toNat < 4 * (s.knr.toNat + 1) then rkWord s.rk s.idx.toNat else 0

/-- The word a register reads as, when the read is not an unspecified one. -/
def State.regWord (s : State) : Reg → Word
  | .id => idWord
  | .ctrl => s.ctrlWord
  | .status => s.statusWord
  | .cmd => 0
  | .rkaddr => s.rkaddrWord
  | .rkdata => s.rkdataWord
  | .key k => s.key[k]
  | .data k => s.data[k]

/-- `BusRead` of a register: OKAY with its word, or with a fresh free value where the spec leaves the read unspecified (rules R47 and
R65). -/
def State.readReg (r : Reg) (s : State) : State :=
  if s.unspecifiedRead r then (s.respond (.okay (some s.freeWord))).draw 1
  else s.respond (.okay (some (s.regWord r)))

/-- A register write that needs BUSY = 0: while BUSY = 1 it stores nothing and raises BUSY (rule R48). -/
def State.whenIdle (write : State → State) (s : State) : State := if s.busy then s.raise .busy else write s

/-- The write of CTRL: a new KSZ drops the expansion (rule R23). -/
def State.writeCtrl (v : Word) (s : State) : State :=
  (if v.extractLsb' 0 2 ≠ s.ksz then s.dropKey else s).setCtrl v

/-- The write of KEYk: it drops the expansion whatever the value written (rule R37). -/
def State.writeKey (k : Fin 8) (v : Word) (s : State) : State := (s.setKey k v).dropKey

/-- `BusWrite` of a register other than CMD. Writes to ID and RKDATA are ignored (rules R21 and R35); a STATUS write acknowledges at
any value of BUSY (rule R32). CMD holds no state (rule R33): its write is `nextMove`'s. -/
def State.writeReg (v : Word) (s : State) : Reg → State
  | .id | .rkdata | .cmd => s
  | .ctrl => s.whenIdle (State.writeCtrl v)
  | .status => s.acknowledge v
  | .rkaddr => s.whenIdle (State.setIdx v)
  | .key k => s.whenIdle (State.writeKey k v)
  | .data k => s.whenIdle (State.setData k v)

end Sys2Proof.Machine
end

