-- ==== Sys2Proof/Machine/Fetch.lean ====
section
/-!
DEFINITION. What happens at the next step: the next event of the schedule, and for a CMD write the command it carries
(spec/20_memory.md rules R68, R69 and R73; spec/10_state.md rule R33; spec/43_block_cipher.md rules R175 and R176).
-/

namespace Sys2Proof.Machine

/-- The next move: run a command's meaning from a state, or be done in a state. -/
inductive Move where
  | run (i : Instr) (s : State)
  | done (s : State)
  deriving DecidableEq, Repr

/-- The engine's completion step, on the command PEND holds; with none in flight it is not enabled and nothing happens (rule R176; log
entry 16). -/
def State.engineMove (s : State) : Move :=
  match s.pend with
  | some p => .run p.instr s
  | none => .done s

/-- A CMD write of the word `v` (rules R33 and R86): a word that decodes runs its command, whose first check is BUSY. A word that does
not is rejected, with BUSY while a command is in flight and ILLEGAL otherwise (log entry 20). -/
def State.cmdMove (v : Word) (s : State) : Move :=
  match decode v with
  | .ok i => .run i s
  | .error _ => .done (s.raise (if s.busy then .busy else .illegal))

/-- One host access (rules R62 to R65): the bus error response with no state change, a read, a write, or a command. -/
def State.accessMove (s : State) : Access → Move
  | .read bits off =>
    match target bits off with
    | none => .done (s.respond (.busError (some 0)))
    | some r => .done (s.readReg r)
  | .write bits off v =>
    match target bits off with
    | none => .done (s.respond (.busError none))
    | some .cmd => (s.respond (.okay none)).cmdMove v
    | some r => .done ((s.respond (.okay none)).writeReg v r)

/-- The next move of the machine. When the schedule is empty the host is silent: the engine completes the command in flight, so that
completion is taken after any finite number of host accesses (rule R240; log entry 2), and an idle machine holds its state (rule
R221). -/
def nextMove (s : State) : Move :=
  match s.script with
  | [] =>
    match s.pend with
    | some _ => (s.turn .engine []).engineMove
    | none => .done s
  | .access a :: rest => (s.turn .host rest).accessMove a
  | .engineWork :: rest => .done (s.turn .engine rest)
  | .engineComplete :: rest => (s.turn .engine rest).engineMove
  | .reset :: rest => .done (s.turn .host rest).resetNow

/-- The event that carries a command word to CMD: a 32-bit write at offset 0x0C (rule R33). -/
def cmdWrite (v : Word) : Event := .access (.write 32 0x0C v)

end Sys2Proof.Machine
end

