-- ==== Sys2Proof/Machine/Step.lean ====
section
/-!
DEFINITION. One step of the machine: the next move (Fetch.lean), and for a command its meaning (Dispatch.lean). It has Host.Core's
three outcomes.
-/

namespace Sys2Proof.Machine

/-- One step. -/
def step (s : State) : Host.Outcome State Fault Refusal :=
  match nextMove s with
  | .run i t => exec i t
  | .done t => .next t

/-- `s` with a CMD write of the given word as its next event, so that the next step issues that command (log entry 10). -/
def State.withFetchWord (s : State) (nbits w : Nat) : State :=
  { s with script := cmdWrite (tableWord nbits w) :: s.script }

end Sys2Proof.Machine
end

