-- ==== Sys2Proof/Machine/Assembly.lean ====
section
/-!
DEFINITION. The host's program lines as the bus transactions they are (spec/30_encoding.md rules R87 to R89). Labels and the branches
`BNZ` and `B` belong to the host's processor; one turn of the `WAIT` loop is the access `poll`.
-/

namespace Sys2Proof.Machine

/-- `WR <reg>, <imm32>` (rule R87). -/
def asmWr (r : Reg) (v : Word) : Event := .access (.write 32 r.offset v)

/-- `RD <reg> -> <var>` (rule R87). -/
def asmRd (r : Reg) : Event := .access (.read 32 r.offset)

/-- `CMD <mnemonic>` and `CMD ADDROUNDKEY <i>` (rules R88 and R89). -/
def asmCmd (i : Instr) : Event := asmWr .cmd (encode i)

/-- One poll of `WAIT`: `RD STATUS -> t` (rule R89). -/
def asmPoll : Event := asmRd .status

/-- `ACK`: `WR STATUS, 0x00000006`, which clears DONE and the error record (rule R89). -/
def asmAck : Event := asmWr .status 0x00000006

/-- `LDKEY k0, ..., k(n-1)`: `WR KEY0, k0` to `WR KEY(n-1), k(n-1)`; there are eight KEY registers (rule R89). -/
def asmLdKey (ks : List Word) : List Event :=
  List.zipWith (fun k v => asmWr (.key k) v) [0, 1, 2, 3, 4, 5, 6, 7] ks

/-- `LDBLK d0, d1, d2, d3` (rule R89). -/
def asmLdBlk (d0 d1 d2 d3 : Word) : List Event :=
  [asmWr (.data 0) d0, asmWr (.data 1) d1, asmWr (.data 2) d2, asmWr (.data 3) d3]

/-- `STBLK -> v` (rule R89). -/
def asmStBlk : List Event := [asmRd (.data 0), asmRd (.data 1), asmRd (.data 2), asmRd (.data 3)]

/-- `SETKSZ n`: `WR CTRL, n | (IE_DONE << 4) | (IE_ERR << 5)`, with the enables the program last wrote (rule R89). -/
def asmSetKsz (n : BitVec 2) (ieDone ieErr : Bool) : Event :=
  asmWr .ctrl (n.setWidth 32 ||| ((BitVec.ofBool ieDone).setWidth 32 <<< 4) ||| ((BitVec.ofBool ieErr).setWidth 32 <<< 5))

end Sys2Proof.Machine
end

