-- ==== Sys2Proof/Safety.lean ====
section
/-!
DEFINITION. What holds in every state a run reaches: the invariant of the spec's prose, by its parts. Each part cites the rule it says.
-/

namespace Sys2Proof.Machine

/-- The handshake: PEND ≠ none exactly when BUSY = 1 (rule R43), and DONE = 0 while a command is in flight (rules R27 and R213). -/
def State.handshakeOk (s : State) : Prop :=
  (s.busy = true ↔ s.pend ≠ none) ∧ (s.busy = true → s.done = false)

/-- The error record: ERRCODE = 0 exactly when ERRV = 0 (rule R30). -/
def State.errorRecordOk (s : State) : Prop := s.errv = false ↔ s.errcode = .noError

/-- The expansion of the current KEY registers at the current CTRL.KSZ (rules R28 and R125). -/
def State.currentExpansion (s : State) : List Word := keyExpansion s.keyOperand (nkOf s.ksz) (nrOf s.ksz)

/-- The round-key RAM holds the complete expansion of the current KEY registers at the current CTRL.KSZ, and KNR its rounds (rules R28
and R29). -/
def State.holdsExpansion (s : State) : Prop :=
  s.ksz ≠ 3 ∧ s.rounds = nrOf s.ksz ∧ ∀ j < 4 * (nrOf s.ksz + 1), rkWord s.rk j = s.currentExpansion.getD j 0

/-- The key record: KEYVALID = 1 only over a complete expansion (rule R28), and KNR = 0 whenever KEYVALID = 0 (rule R29). -/
def State.keyRecordOk (s : State) : Prop :=
  (s.keyvalid = true → s.holdsExpansion) ∧ (s.keyvalid = false → s.knr = 0)

/-- What PEND captured agrees with the registers, which cannot change while a command is in flight (rules R48 and R176). EXPAND and
CLEAR in flight have dropped the old expansion; ENCRYPT, DECRYPT and ADDROUNDKEY in flight have one to use (rule R175). -/
def State.pendOk (s : State) : Prop :=
  match s.pend with
  | none | some .nop => True
  | some .clear => s.keyvalid = false
  | some (.expand k nk nr) =>
    s.keyvalid = false ∧ s.ksz ≠ 3 ∧ k = s.keyOperand ∧ nk = nkOf s.ksz ∧ nr = nrOf s.ksz
  | some (.encrypt blk nr) | some (.decrypt blk nr) => s.keyvalid = true ∧ blk = s.block ∧ nr = s.rounds
  | some (.addRoundKey blk i) => s.keyvalid = true ∧ blk = s.block ∧ i ≤ s.knr
  | some (.subBytes blk) | some (.invSubBytes blk) | some (.shiftRows blk) | some (.invShiftRows blk)
  | some (.mixColumns blk) | some (.invMixColumns blk) => blk = s.block

/-- The machine's invariant. -/
structure State.Inv (s : State) : Prop where
  handshake : s.handshakeOk
  errorRecord : s.errorRecordOk
  keyRecord : s.keyRecordOk
  pending : s.pendOk

/-- Two states a host cannot tell apart by the round-key RAM: equal but for words of it that no valid expansion covers (rule R42). -/
def State.agreeOnKeys (s t : State) : Prop :=
  t = { s with rk := t.rk } ∧
    (s.keyvalid = true → ∀ j < 4 * (s.knr.toNat + 1), rkWord s.rk j = rkWord t.rk j)

/-- A step that answers a next state: it neither faults nor refuses. -/
def State.steps (s : State) : Prop := ∃ t, step s = .next t

end Sys2Proof.Machine
end

