-- ==== Sys2Proof/Certificates/Slice0/Obligations.lean ====
section
/-!
DEFINITION. The statements about the model, for the provers: each a `def Obligations.<Name> : Prop` with the rules of spec/ it comes
from. The definitions under `Sys2Proof.Claims` say in the spec's words what the statements compare the model with.
-/

open Sys2Proof Sys2Proof.Machine

namespace Sys2Proof.Claims

/-- The state in which a host access has been answered with `r` and the events `rest` are still to come: `agent`, `script` and `resp`
are the model's own fields (log entries 1, 4 and 7), and no register differs from `s`. -/
def answered (s : State) (rest : List Event) (r : Response) : State :=
  { s with agent := .host, script := rest, resp := some r }

/-- The error record after `raise Error(e)`: the first error wins (rules R30 and R203). -/
def raised (s : State) (e : ErrorCode) : State :=
  { s with errv := true, errcode := if s.errv then s.errcode else e }

/-- A completed command over the results `s` holds (rule R176). -/
def completed (s : State) : State := { s with busy := false, done := true, pend := none }

/-- An accepted command that drops no key (rule R175). -/
def accepted (s : State) (p : Pending) : State := { s with pend := some p, busy := true, done := false }

/-- The event of a 32-bit write of `v` to a register. -/
def writeOf (r : Reg) (v : Word) : Event := .access (.write 32 r.offset v)

/-- The event of a 32-bit read of a register. -/
def readOf (r : Reg) : Event := .access (.read 32 r.offset)

/-- The next event is an engine step that completes: the schedule names it, or the schedule has ended (log entry 2). -/
def engineNext (s : State) (rest : List Event) : Prop :=
  s.script = .engineComplete :: rest ∨ (s.script = [] ∧ rest = [])

/-- Byte `b[n]` of a block in DATA0..3 as rule R40 packs it: byte `n mod 4` of DATA(n / 4), the first in bits [31:24]. -/
def blockByte (d : Vector Word 4) (n : Nat) : Byte := ((d.getD (n / 4) 0) >>> (24 - 8 * (n % 4))).setWidth 8

/-- A byte as a polynomial over GF(2): the product of two, not reduced (rule R100). -/
def polyProduct (a b : Byte) : Nat :=
  (List.range 8).foldl (fun acc i => if b.getLsbD i then acc ^^^ (a.toNat <<< i) else acc) 0

/-- A polynomial of degree below 15 reduced modulo x^8 + x^4 + x^3 + x + 1, which is 0x11B (rule R100): the multiples of 0x11B by x^6
down to x^0 are taken away from the top. -/
def polyReduce (p : Nat) : Byte :=
  BitVec.ofNat 8 ([14, 13, 12, 11, 10, 9, 8].foldl (fun q d => if q.testBit d then q ^^^ (0x11B <<< (d - 8)) else q) p)

/-- Bit `i` of the affine map `A` of rule R105. -/
def affineBit (b : Byte) (i : Nat) : Bool :=
  b.getLsbD i ^^ b.getLsbD ((i + 4) % 8) ^^ b.getLsbD ((i + 5) % 8) ^^ b.getLsbD ((i + 6) % 8) ^^ b.getLsbD ((i + 7) % 8) ^^
    (0x63 : Byte).getLsbD i

/-- The error a CMD write of `w` raises, the first of the checks in the order of rules R86 and R205, or none. -/
def firstError (s : State) (w : Word) : Option ErrorCode :=
  if s.busy then some .busy
  else if ¬ wordWellFormed w then some .illegal
  else if w = 0x00000001 ∧ s.ksz = 3 then some .badKsz
  else if (w = 0x00000002 ∨ w = 0x00000003 ∨ w &&& 0xFF = 0x16) ∧ s.keyvalid = false then some .noKey
  else if w &&& 0xFF = 0x16 ∧ s.knr.toNat < (w.toNat / 256) % 16 then some .badRki
  else none

/-- The six primitive commands that need no key (rule R149), each with its record and its transform. -/
def keyless : List (Instr × (Grid → Pending) × (Grid → Grid)) :=
  [(.subBytes, .subBytes, subBytes), (.invSubBytes, .invSubBytes, invSubBytes), (.shiftRows, .shiftRows, shiftRows),
   (.invShiftRows, .invShiftRows, invShiftRows), (.mixColumns, .mixColumns, mixColumns),
   (.invMixColumns, .invMixColumns, invMixColumns)]

/-- ENCRYPT and DECRYPT, each with its record and its cipher function (rules R177 and R178). -/
def ciphers : List (Instr × (Grid → Nat → Pending) × (Vector Word 60 → Nat → Grid → Grid)) :=
  [(.encrypt, .encrypt, cipher), (.decrypt, .decrypt, invCipher)]

/-- What the host sees of a step: the response and the interrupt output; with the draws and the events to come alike too. -/
def sameHostSide (s t : State) : Prop :=
  s.resp = t.resp ∧ s.irq = t.irq ∧ s.draws = t.draws ∧ s.script = t.script

/-- The registers an operand is taken from and a result may go to, and the key size: what no host half of a command changes. -/
def sameOperands (s t : State) : Prop :=
  t.ksz = s.ksz ∧ t.ieDone = s.ieDone ∧ t.ieErr = s.ieErr ∧ t.idx = s.idx ∧ t.key = s.key ∧ t.data = s.data ∧ t.rk = s.rk

/-- The model's own fields. -/
def sameModelFields (s t : State) : Prop :=
  t.agent = s.agent ∧ t.script = s.script ∧ t.resp = s.resp ∧ t.draws = s.draws

end Sys2Proof.Claims

open Sys2Proof.Claims

/-! ## Command words -/

/-- Rules R80, R83, R84 and R88: the decoder and the encoder agree in both directions, for every command, every value of RKI and every
word. -/
def Obligations.DecodeReadsExactlyTheEncodedWord : Prop :=
  ∀ (i : Instr) (w : Word), decode w = .ok i ↔ w = encode i

/-- Rule R84: a word decodes when all three checks pass; a word that fails one, written to CMD, raises ILLEGAL and is not executed (BUSY
comes first, rule R86, so the engine is idle here). -/
def Obligations.WellFormedWordsDecodeAndOthersRaiseIllegal : Prop :=
  (∀ w, (∃ i, decode w = .ok i) ↔ wordWellFormed w = true) ∧
  ∀ s rest w, s.script = writeOf .cmd w :: rest → s.busy = false → wordWellFormed w = false →
    step s = .next (raised (answered s rest (.okay none)) .illegal)

/-- Rules R83 and R90 and the table V-DEC: thirteen words that the twelve commands have
(ADDROUNDKEY at two indexes), and six rejected ones, as the spec writes them. -/
def Obligations.SpecWordsDecodeAsWritten : Prop :=
  decode 0x00000000 = .ok .nop ∧ decode 0x00000001 = .ok .expand ∧ decode 0x00000002 = .ok .encrypt ∧
  decode 0x00000003 = .ok .decrypt ∧ decode 0x00000004 = .ok .clear ∧ decode 0x00000010 = .ok .subBytes ∧
  decode 0x00000011 = .ok .invSubBytes ∧ decode 0x00000012 = .ok .shiftRows ∧ decode 0x00000013 = .ok .invShiftRows ∧
  decode 0x00000014 = .ok .mixColumns ∧ decode 0x00000015 = .ok .invMixColumns ∧ decode 0x00000A16 = .ok (.addRoundKey 10) ∧
  decode 0x00000F16 = .ok (.addRoundKey 15) ∧ decode 0x00000005 = .error .reservedOpcode ∧
  decode 0x00000017 = .error .reservedOpcode ∧ decode 0x00000102 = .error .strayRki ∧ decode 0x00000100 = .error .strayRki ∧ decode 0x00001000 = .error .reservedField ∧
  decode 0x80000002 = .error .reservedField

/-! ## The step -/

/-- Rules R33 and R73: a CMD write of a word that decodes to `i` takes effect in that step, as the host half of `i`; the bus response is
OKAY. The same of the word the host's interface places with `withFetchWord` (log entry 10). -/
def Obligations.StepRunsTheCommandWritten : Prop :=
  (∀ s rest w i, s.script = writeOf .cmd w :: rest → decode w = .ok i →
    step s = exec i (answered s rest (.okay none))) ∧
  ∀ s nbits w i, decodeTableWord nbits w = some i →
    step (s.withFetchWord nbits w) = exec i (answered s s.script (.okay none))

/-- Rule R176: the engine's step runs the completion of the command PEND holds. -/
def Obligations.EngineStepRunsTheCommandInFlight : Prop :=
  ∀ s rest p, engineNext s rest → s.pend = some p →
    step s = exec p.instr { s with agent := .engine, script := rest }

/-- Nothing stops the machine: every step from every state answers a next state. This is the model's deduction (log entry 9, DEDUCED) from
rules R63, R176, R203 and R212, by which a bus error is a response, an error is a recorded code, no command fails after acceptance and
no trap is taken. -/
def Obligations.EveryStepAnswersANextState : Prop := ∀ s : State, s.steps

/-! ## The commands -/

/-- Rule R190: NOP's acceptance and completion are the handshake and nothing else. -/
def Obligations.NopIsTheHandshakeAlone : Prop :=
  (∀ s : State, s.agent = .host → s.busy = false → exec .nop s = .next (accepted s .nop)) ∧
  ∀ s : State, s.agent = .engine → s.pend = some .nop → exec .nop s = .next (completed s)

/-- Rule R191: CLEAR's acceptance drops the expansion; its completion zeroes KEY0..7, DATA0..3 and RK[0..59]. -/
def Obligations.ClearErasesKeyDataAndExpansion : Prop :=
  (∀ s : State, s.agent = .host → s.busy = false →
    exec .clear s = .next (accepted { s with keyvalid := false, knr := 0 } .clear)) ∧
  ∀ s : State, s.agent = .engine → s.pend = some .clear →
    ∃ t, exec .clear s = .next t ∧
      t = completed { s with key := t.key, data := t.data, rk := t.rk } ∧
      (∀ k : Fin 8, t.key[k] = 0) ∧ (∀ k : Fin 4, t.data[k] = 0) ∧ ∀ j : Fin 60, t.rk[j] = 0

/-- Rule R128, acceptance: with KSZ ≠ 3, EXPAND captures the first Nk = 4 + 2·KSZ key words, Nk and Nr = Nk + 6, and drops the
expansion. -/
def Obligations.ExpandAcceptanceCapturesTheKey : Prop :=
  ∀ s : State, s.agent = .host → s.busy = false → s.ksz ≠ 3 →
    ∃ k, exec .expand s = .next (accepted { s with keyvalid := false, knr := 0 }
        (.expand k (4 + 2 * s.ksz.toNat) (10 + 2 * s.ksz.toNat))) ∧
      k.length = 4 + 2 * s.ksz.toNat ∧ ∀ j (h : j < 8), j < 4 + 2 * s.ksz.toNat → k.getD j 0 = s.key[j]

/-- Rule R24: KSZ 0, 1 and 2 select 4, 6 and 8 key words (16, 24 and 32 bytes) and 10, 12 and 14 rounds; a write of 3 is stored and
reads back as 3; EXPAND with KSZ = 3 raises BADKSZ, code 3, and nothing else happens. -/
def Obligations.ReservedKeySizeIsStoredAndRejectedByExpand : Prop :=
  ((nkOf 0 = 4 ∧ nrOf 0 = 10) ∧ (nkOf 1 = 6 ∧ nrOf 1 = 12) ∧ (nkOf 2 = 8 ∧ nrOf 2 = 14)) ∧
  (∀ s rest v, s.script = writeOf .ctrl v :: rest → s.busy = false → v.extractLsb' 0 2 = 3#2 →
    ∃ t, step s = .next t ∧ t.ksz = 3 ∧ t.ctrlWord.extractLsb' 0 2 = 3#2) ∧
  ErrorCode.badKsz.code = 3 ∧
  ∀ s : State, s.agent = .host → s.busy = false → s.ksz = 3 → exec .expand s = .next (raised s .badKsz)

/-- Rule R128, completion: for the three key sizes, the words RK[0..4Nr+3] become the expansion, the others stay, KEYVALID = 1 and
KNR = Nr, and no other register changes but the handshake. -/
def Obligations.ExpandCompletionLoadsTheExpansion : Prop :=
  ∀ (s : State) (k : List Word) (nk nr : Nat), s.agent = .engine → s.pend = some (.expand k nk nr) →
    nr = 10 ∨ nr = 12 ∨ nr = 14 →
    ∃ t, exec .expand s = .next t ∧
      t = completed { s with rk := t.rk, keyvalid := true, knr := t.knr } ∧ t.knr.toNat = nr ∧
      ∀ j : Fin 60, t.rk[j] = if j.val < 4 * (nr + 1) then (keyExpansion k nk nr).getD j 0 else s.rk[j]

/-- Rules R175, R177 and R178: with a valid key, ENCRYPT and DECRYPT capture DATA0..3 and KNR; without one they raise NOKEY and nothing
else happens. -/
def Obligations.CiphersAreAcceptedOnlyWithAKey : Prop :=
  ∀ c ∈ ciphers, ∀ s : State, s.agent = .host → s.busy = false →
    (s.keyvalid = true → exec c.1 s = .next (accepted s (c.2.1 (toGrid s.data) s.knr.toNat))) ∧
    (s.keyvalid = false → exec c.1 s = .next (raised s .noKey))

/-- Rules R176 to R178: completion writes Cipher or InvCipher of the captured block to DATA0..3 and changes nothing else but the
handshake. Rules R171 and R172 say what the two compute, here for any Nr ≥ 1: through states `st r`, Cipher starts with AddRoundKey 0,
goes through the rounds 1 to Nr - 1 and ends with a round that has no MixColumns; InvCipher starts with AddRoundKey Nr, goes through
the steps Nr - 1 down to 1 and ends with InvShiftRows, InvSubBytes and AddRoundKey 0. -/
def Obligations.CiphersCompleteWithTheTransformedBlock : Prop :=
  (∀ c ∈ ciphers, ∀ (s : State) (blk : Grid) (nr : Nat), s.agent = .engine → s.pend = some (c.2.1 blk nr) →
    exec c.1 s = .next (completed { s with data := fromGrid (c.2.2 s.rk nr blk) })) ∧
  ∀ (rk : Vector Word 60) (nr : Nat) (S : Grid), 1 ≤ nr →
    (∃ st : Nat → Grid, st 0 = addRoundKey rk 0 S ∧
      (∀ r, 1 ≤ r → r < nr → st r = addRoundKey rk r (mixColumns (shiftRows (subBytes (st (r - 1)))))) ∧
      cipher rk nr S = addRoundKey rk nr (shiftRows (subBytes (st (nr - 1))))) ∧
    ∃ st : Nat → Grid, st nr = addRoundKey rk nr S ∧
      (∀ r, 1 ≤ r → r < nr → st r = invMixColumns (addRoundKey rk r (invSubBytes (invShiftRows (st (r + 1)))))) ∧
      invCipher rk nr S = addRoundKey rk 0 (invSubBytes (invShiftRows (st 1)))

/-- Rule R149, acceptance: the six primitive commands that need no key are accepted at any value of KEYVALID and capture DATA0..3. -/
def Obligations.KeylessPrimitivesAreAcceptedWithoutAKey : Prop :=
  ∀ c ∈ keyless, ∀ s : State, s.agent = .host → s.busy = false →
    exec c.1 s = .next (accepted s (c.2.1 (toGrid s.data)))

/-- Rule R149, completion: the six write their transform of the captured block to DATA0..3, and nothing else changes but the
handshake. Rules R140 and R141: SubBytes and InvSubBytes put each byte, alone, through the S-box and the inverse S-box (rules R142 to
R145 for the other four are in `ShiftRowsMovesTheRows` and `MixColumnsMultipliesByTheMatrices`). -/
def Obligations.KeylessPrimitivesCompleteWithTheirTransform : Prop :=
  (∀ c ∈ keyless, ∀ (s : State) (blk : Grid), s.agent = .engine → s.pend = some (c.2.1 blk) →
    exec c.1 s = .next (completed { s with data := fromGrid (c.2.2 blk) })) ∧
  ∀ (S : Grid) (r c : Fin 4),
    (subBytes S).entry r c = sbox (S.entry r c) ∧ (invSubBytes S).entry r c = invSbox (S.entry r c)

/-- Rule R156, acceptance: NOKEY without a key, then BADRKI for an index above KNR, and otherwise the block and the index are
captured. -/
def Obligations.AddRoundKeyChecksKeyThenIndex : Prop :=
  ∀ (i : BitVec 4) (s : State), s.agent = .host → s.busy = false →
    exec (.addRoundKey i) s =
      if s.keyvalid = false then .next (raised s .noKey)
      else if s.knr.toNat < i.toNat then .next (raised s .badRki)
      else .next (accepted s (.addRoundKey (toGrid s.data) i))

/-- Rules R146 and R156, completion: with the captured block that of DATA0..3, each DATAc becomes DATAc ^ RK[4i + c] for an index the RAM
holds, and no other register changes but the handshake. -/
def Obligations.AddRoundKeyXorsTheRoundKeyWords : Prop :=
  ∀ (i : BitVec 4) (s : State), s.agent = .engine → s.pend = some (.addRoundKey (toGrid s.data) i) → i.toNat ≤ 14 →
    ∃ t, exec (.addRoundKey i) s = .next t ∧ t = completed { s with data := t.data } ∧
      ∀ (c : Fin 4) (j : Fin 60), j.val = 4 * i.toNat + c.val → t.data[c] = s.data[c] ^^^ s.rk[j]

/-- Rules R48 and R86: a command issued while BUSY = 1 raises BUSY and has no other effect, whichever command it is. -/
def Obligations.BusyEngineRejectsEveryCommand : Prop :=
  ∀ (i : Instr) (s : State), s.agent = .host → s.busy = true → exec i s = .next (raised s .busy)

/-- Rules R86, R175 and R205: a CMD write of any word raises the first error of the check order and does nothing else, or, when no check
fails, is accepted. -/
def Obligations.CommandWriteRaisesTheFirstErrorInOrder : Prop :=
  ∀ s rest w, s.script = writeOf .cmd w :: rest →
    match firstError s w with
    | some e => step s = .next (raised (answered s rest (.okay none)) e)
    | none => ∃ t p, step s = .next t ∧ t.busy = true ∧ t.done = false ∧ t.pend = some p ∧ encode p.instr = w ∧
        t.errv = s.errv ∧ t.errcode = s.errcode

/-! ## Frames -/

/-- Rules R149, R175 and R203: the host half of every command leaves CTRL, RKADDR, KEY, DATA and RK as they were; KEYVALID and KNR change only for
EXPAND and CLEAR; an acceptance leaves the error record and a rejection leaves everything else. -/
def Obligations.HostHalfFrame : Prop :=
  ∀ (i : Instr) (s t : State), s.agent = .host → exec i s = .next t →
    sameOperands s t ∧ sameModelFields s t ∧
    (i ≠ .expand → i ≠ .clear → t.keyvalid = s.keyvalid ∧ t.knr = s.knr) ∧
    ((t.pend = s.pend ∧ t.busy = s.busy ∧ t.done = s.done ∧ t.keyvalid = s.keyvalid ∧ t.knr = s.knr) ∨
      (t.errv = s.errv ∧ t.errcode = s.errcode))

/-- Rules R149, R156, R177 and R178: the engine half of the nine commands that write DATA0..3 changes DATA0..3 and the handshake only:
every other register, every word of RK, the key record and the error record stay. -/
def Obligations.BlockCommandFrame : Prop :=
  ∀ (i : Instr) (s t : State), i ≠ .nop → i ≠ .clear → i ≠ .expand → s.agent = .engine → exec i s = .next t →
    t.ksz = s.ksz ∧ t.ieDone = s.ieDone ∧ t.ieErr = s.ieErr ∧ t.idx = s.idx ∧ t.key = s.key ∧ t.rk = s.rk ∧
    t.keyvalid = s.keyvalid ∧ t.knr = s.knr ∧ t.errv = s.errv ∧ t.errcode = s.errcode ∧ sameModelFields s t

/-- Rules R42, R128, R190 and R191: the engine half of NOP changes the handshake only; that of EXPAND leaves CTRL, RKADDR, KEY, DATA and the error
record, and the words of RK past the captured expansion; that of CLEAR leaves CTRL, RKADDR, the key record and the error record. -/
def Obligations.NopExpandClearFrame : Prop :=
  ∀ (s t : State), s.agent = .engine →
    (exec .nop s = .next t →
      sameOperands s t ∧ t.keyvalid = s.keyvalid ∧ t.knr = s.knr ∧ t.errv = s.errv ∧ t.errcode = s.errcode ∧ sameModelFields s t) ∧
    (exec .expand s = .next t →
      t.ksz = s.ksz ∧ t.ieDone = s.ieDone ∧ t.ieErr = s.ieErr ∧ t.idx = s.idx ∧ t.key = s.key ∧ t.data = s.data ∧
      t.errv = s.errv ∧ t.errcode = s.errcode ∧ sameModelFields s t ∧
      ∀ k nk nr, s.pend = some (.expand k nk nr) → ∀ j : Fin 60, 4 * (nr + 1) ≤ j.val → t.rk[j] = s.rk[j]) ∧
    (exec .clear s = .next t →
      t.ksz = s.ksz ∧ t.ieDone = s.ieDone ∧ t.ieErr = s.ieErr ∧ t.idx = s.idx ∧ t.keyvalid = s.keyvalid ∧ t.knr = s.knr ∧
      t.errv = s.errv ∧ t.errcode = s.errcode ∧ sameModelFields s t)

/-! ## Whole commands: the CMD write and then the completion -/

/-- Rules R149 to R155, R175 and R176: from an idle machine, the word of a keyless primitive command and then the engine's completion
leave its transform of DATA0..3 in DATA0..3, with DONE = 1, and every other register as it was. -/
def Obligations.KeylessPrimitiveRunsFromWordToResult : Prop :=
  ∀ c ∈ keyless, ∀ (s : State) (rest : List Event), s.busy = false → s.pend = none →
    s.script = writeOf .cmd (encode c.1) :: .engineComplete :: rest →
    Host.Core.run core 2 s = .next { s with
      data := fromGrid (c.2.2 (toGrid s.data)), done := true, agent := .engine, script := rest, resp := some (.okay none) }

/-- Rules R175 to R178: from an idle machine with a valid key, the word of ENCRYPT or DECRYPT and then the engine's completion leave
Cipher or InvCipher of DATA0..3 at KNR rounds in DATA0..3. -/
def Obligations.CipherRunsFromWordToResult : Prop :=
  ∀ c ∈ ciphers, ∀ (s : State) (rest : List Event), s.busy = false → s.pend = none → s.keyvalid = true →
    s.script = writeOf .cmd (encode c.1) :: .engineComplete :: rest →
    Host.Core.run core 2 s = .next { s with
      data := fromGrid (c.2.2 s.rk s.knr.toNat (toGrid s.data)), done := true, agent := .engine, script := rest,
      resp := some (.okay none) }

/-- Rules R128, R175 and R176: from an idle machine with KSZ ≠ 3, the word of EXPAND and then the engine's completion leave the RAM
holding the expansion of the current key at the current key size, with KEYVALID = 1, KNR = Nr and the key and data registers as they
were. -/
def Obligations.ExpandRunsFromWordToAValidKey : Prop :=
  ∀ (s : State) (rest : List Event), s.busy = false → s.pend = none → s.ksz ≠ 3 →
    s.script = writeOf .cmd 0x00000001 :: .engineComplete :: rest →
    ∃ t, Host.Core.run core 2 s = .next t ∧ t.keyvalid = true ∧ t.holdsExpansion ∧ t.done = true ∧ t.busy = false ∧
      t.pend = none ∧ t.ksz = s.ksz ∧ t.key = s.key ∧ t.data = s.data ∧ t.errv = s.errv ∧ t.script = rest

/-! ## Registers -/

/-- Rule R21: ID reads 0x41455301 with response OKAY in every state; a write to it is ignored with response OKAY and records no
error. -/
def Obligations.IdIsAConstant : Prop :=
  (∀ s rest, s.script = readOf .id :: rest → step s = .next (answered s rest (.okay (some 0x41455301)))) ∧
  (∀ s rest v, s.script = writeOf .id v :: rest → step s = .next (answered s rest (.okay none))) ∧
  Reg.id.offset = 0x00 ∧ (0x41455301#32).extractLsb' 8 24 = 0x414553#24 ∧ (0x41455301#32).extractLsb' 0 8 = 0x01#8

/-- Rule R22: CTRL reads KSZ in [1:0], IE_DONE in [4], IE_ERR in [5] and 0 in every other bit. Rule R23: a write while BUSY = 0 stores
the three fields, so that the word reads back under that mask, and drops the expansion when KSZ changes; while BUSY = 1 it changes no
CTRL field and raises BUSY. -/
def Obligations.CtrlWriteStoresItsFields : Prop :=
  (∀ s rest, s.script = readOf .ctrl :: rest → step s = .next (answered s rest (.okay (some s.ctrlWord)))) ∧
  (∀ s : State, s.ctrlWord.extractLsb' 0 2 = s.ksz ∧ s.ctrlWord.getLsbD 4 = s.ieDone ∧ s.ctrlWord.getLsbD 5 = s.ieErr ∧
    s.ctrlWord &&& 0xFFFFFFCC = 0) ∧
  ∀ s rest v, s.script = writeOf .ctrl v :: rest →
    (s.busy = true → step s = .next (raised (answered s rest (.okay none)) .busy)) ∧
    (s.busy = false → ∃ t, step s = .next t ∧ t.ctrlWord = v &&& 0x00000033 ∧
      t = { answered s rest (.okay none) with
        ksz := v.extractLsb' 0 2, ieDone := v.getLsbD 4, ieErr := v.getLsbD 5
        keyvalid := if v.extractLsb' 0 2 ≠ s.ksz then false else s.keyvalid
        knr := if v.extractLsb' 0 2 ≠ s.ksz then 0 else s.knr })

/-- Rules R25 and R31: STATUS reads BUSY [0], DONE [1], ERRV [2], KEYVALID [3], ERRCODE [7:4], KNR [11:8], the interrupt level [12] and 0
in every other bit, at any value of BUSY. -/
def Obligations.StatusFieldsStandInTheirBits : Prop :=
  (∀ s rest, s.script = readOf .status :: rest → step s = .next (answered s rest (.okay (some s.statusWord)))) ∧
  ∀ s : State, s.statusWord.getLsbD 0 = s.busy ∧ s.statusWord.getLsbD 1 = s.done ∧ s.statusWord.getLsbD 2 = s.errv ∧
    s.statusWord.getLsbD 3 = s.keyvalid ∧ s.statusWord.extractLsb' 4 4 = s.errcode.code ∧
    s.statusWord.extractLsb' 8 4 = s.knr ∧
    s.statusWord.getLsbD 12 = ((s.done && s.ieDone) || (s.errv && s.ieErr)) ∧ s.statusWord &&& 0xFFFFE000 = 0

/-- Rule R32: a STATUS write clears DONE when v[1] = 1 and the error record when v[2] = 1, ignores every other bit, acts at any value of
BUSY and records no error. -/
def Obligations.StatusWriteClearsWhatItNames : Prop :=
  ∀ s rest v, s.script = writeOf .status v :: rest →
    step s = .next { answered s rest (.okay none) with
      done := if v.getLsbD 1 then false else s.done
      errv := if v.getLsbD 2 then false else s.errv
      errcode := if v.getLsbD 2 then .noError else s.errcode }

/-- Rules R210 and R211: the interrupt output is (DONE & IE_DONE) | (ERRV & IE_ERR), and the write 0x00000006 to STATUS lowers it in the
same step, whatever the enables. -/
def Obligations.InterruptLevelFollowsDoneAndError : Prop :=
  (∀ s : State, s.irq = ((s.done && s.ieDone) || (s.errv && s.ieErr))) ∧
  ∀ s rest, s.script = asmAck :: rest →
    ∃ t, step s = .next t ∧ t.irq = false ∧ t.done = false ∧ t.errv = false ∧ t.errcode = .noError ∧
      t.ieDone = s.ieDone ∧ t.ieErr = s.ieErr ∧ t.busy = s.busy ∧ t.pend = s.pend

/-- Rule R34: RKADDR holds IDX in [5:0], 0 after reset, and reads 0 elsewhere; a write while BUSY = 0 sets IDX to v[5:0],
every value 0 to 63 kept, and while BUSY = 1 raises BUSY. -/
def Obligations.RkaddrHoldsASixBitIndex : Prop :=
  State.reset.idx = 0 ∧
  (∀ s rest, s.script = readOf .rkaddr :: rest → step s = .next (answered s rest (.okay (some (s.idx.setWidth 32))))) ∧
  ∀ s rest v, s.script = writeOf .rkaddr v :: rest →
    (s.busy = true → step s = .next (raised (answered s rest (.okay none)) .busy)) ∧
    (s.busy = false → step s = .next { answered s rest (.okay none) with idx := v.extractLsb' 0 6 })

/-- Rule R35: with BUSY = 0, RKDATA reads the RAM word at IDX when it belongs to the expansion held and 0 otherwise, with no side effect;
a write to it is ignored. (KNR is at most 14 in every state of the invariant, so an index the first clause reads is then below 60.) -/
def Obligations.RkdataReadsTheExpansionOnly : Prop :=
  (∀ s rest (j : Fin 60), s.script = readOf .rkdata :: rest → s.busy = false → s.keyvalid = true →
    j.val = s.idx.toNat → s.idx.toNat < 4 * (s.knr.toNat + 1) →
    step s = .next (answered s rest (.okay (some s.rk[j])))) ∧
  (∀ s rest, s.script = readOf .rkdata :: rest → s.busy = false →
    (s.keyvalid = false ∨ 4 * (s.knr.toNat + 1) ≤ s.idx.toNat) → step s = .next (answered s rest (.okay (some 0)))) ∧
  ∀ s rest v, s.script = writeOf .rkdata v :: rest → step s = .next (answered s rest (.okay none))

/-- Rules R36 and R37: a KEYk read while BUSY = 0 returns the stored word; a write while BUSY = 0 stores the word in that register alone
and drops the expansion, even when the value is the one held. -/
def Obligations.KeyWritesStoreAndDropTheExpansion : Prop :=
  (∀ s rest (k : Fin 8), s.script = readOf (.key k) :: rest → s.busy = false →
    step s = .next (answered s rest (.okay (some s.key[k])))) ∧
  ∀ s rest (k : Fin 8) v, s.script = writeOf (.key k) v :: rest → s.busy = false →
    ∃ t, step s = .next t ∧ t = { answered s rest (.okay none) with key := t.key, keyvalid := false, knr := 0 } ∧
      t.key[k] = v ∧ ∀ j : Fin 8, j ≠ k → t.key[j] = s.key[j]

/-- Rule R39: a DATAk read while BUSY = 0 returns the stored word; a write while BUSY = 0 stores the word in that register alone and
touches nothing else. -/
def Obligations.DataWritesStoreAndKeepTheKey : Prop :=
  (∀ s rest (k : Fin 4), s.script = readOf (.data k) :: rest → s.busy = false →
    step s = .next (answered s rest (.okay (some s.data[k])))) ∧
  ∀ s rest (k : Fin 4) v, s.script = writeOf (.data k) v :: rest → s.busy = false →
    ∃ t, step s = .next t ∧ t = { answered s rest (.okay none) with data := t.data } ∧
      t.data[k] = v ∧ ∀ j : Fin 4, j ≠ k → t.data[j] = s.data[j]

/-- Rule R48: while BUSY = 1 a write to CTRL, CMD, RKADDR, KEY0..7 or DATA0..3 changes no register except the error record, which takes
BUSY, with response OKAY; a STATUS write acts; writes to ID and RKDATA are ignored. -/
def Obligations.WritesWhileBusyRecordBusyOnly : Prop :=
  ∀ s rest r v, s.script = writeOf r v :: rest → s.busy = true →
    (r ≠ .status → r ≠ .id → r ≠ .rkdata → step s = .next (raised (answered s rest (.okay none)) .busy)) ∧
    (r = .status → step s = .next ((answered s rest (.okay none)).acknowledge v)) ∧
    (r = .id ∨ r = .rkdata → step s = .next (answered s rest (.okay none)))

/-- Rule R47: while BUSY = 1 the response to a read of KEY, DATA or RKDATA does not depend on any register: two busy states with the same
draws get the same one, and each such read uses up a draw. Reads of ID, CTRL, STATUS, CMD and RKADDR return their values as usual, CMD's
being 0 in every state (rule R33). (That
the response is the free value numbered by `draws` is the model's form of "unspecified", log entry 6.) -/
def Obligations.BusyReadsRevealNothing : Prop :=
  (∀ s t rest rest' r, s.script = readOf r :: rest → t.script = readOf r :: rest' → s.busy = true → t.busy = true →
    s.draws = t.draws → r ≠ .id → r ≠ .ctrl → r ≠ .status → r ≠ .cmd → r ≠ .rkaddr →
    ∃ w, step s = .next { answered s rest (.okay (some w)) with draws := s.draws + 1 } ∧
      step t = .next { answered t rest' (.okay (some w)) with draws := t.draws + 1 }) ∧
  (∀ s rest r, s.script = readOf r :: rest → r = .id ∨ r = .ctrl ∨ r = .status ∨ r = .cmd ∨ r = .rkaddr →
    step s = .next (answered s rest (.okay (some (s.regWord r))))) ∧
  ∀ s rest, s.script = readOf .cmd :: rest → step s = .next (answered s rest (.okay (some 0x00000000)))

/-- Rule R63: an access to a reserved offset, of a width other than 32 bits, or at an offset that is not a multiple of 4 gets the bus
error response, 0 as the data of a read, and changes no state; every other access gets OKAY. -/
def Obligations.BadAccessesGetTheBusError : Prop :=
  ∀ s rest bits (off : BitVec 8),
    let bad := off = 0x18 ∨ off = 0x1C ∨ 0x50 ≤ off.toNat ∨ bits ≠ 32 ∨ off.toNat % 4 ≠ 0
    (s.script = .access (.read bits off) :: rest →
      (bad → step s = .next (answered s rest (.busError (some 0)))) ∧
      (¬ bad → ∃ t w, step s = .next t ∧ t.resp = some (.okay (some w)))) ∧
    ∀ v, s.script = .access (.write bits off v) :: rest →
      (bad → step s = .next (answered s rest (.busError none))) ∧
      (¬ bad → ∃ t, step s = .next t ∧ t.resp = some (.okay none))

/-- Rule R65: no read has a side effect on the block: whatever the width and the offset, only the model's own fields of the response, the
schedule, the agent and the draws differ afterwards. -/
def Obligations.ReadsChangeNoRegister : Prop :=
  ∀ s rest bits off, s.script = .access (.read bits off) :: rest →
    ∃ t, step s = .next t ∧ t = { s with agent := t.agent, script := t.script, resp := t.resp, draws := t.draws }

/-- Rule R43: the host cannot read PEND: two states that differ in PEND alone answer any access alike, with the same interrupt output
afterwards. -/
def Obligations.PendIsInvisibleToEveryAccess : Prop :=
  ∀ s p a rest, s.script = .access a :: rest →
    ∃ t u, step s = .next t ∧ step { s with pend := p } = .next u ∧ sameHostSide t u

/-! ## Reset -/

/-- Rule R49: the state after reset reads ID as the constant, CTRL, STATUS, RKADDR, KEY0..7 and DATA0..3 as zero, holds no command in
flight, and its interrupt output is 0. (The contents of RK are unspecified there: log entry 5.) -/
def Obligations.ResetStateHasTheSpecValues : Prop :=
  State.reset.regWord .id = 0x41455301 ∧ State.reset.ctrlWord = 0 ∧ State.reset.statusWord = 0 ∧ State.reset.rkaddrWord = 0 ∧
  (∀ k : Fin 8, State.reset.key[k] = 0) ∧ (∀ k : Fin 4, State.reset.data[k] = 0) ∧ State.reset.pend = none ∧
  State.reset.irq = false

/-- Rules R230 and R231: a reset at any time takes every register to its reset value and abandons a command in flight; but for the draws
and the events to come, the result does not depend on the state it came in. (RK then holds free words numbered by the draws: log entry
5.) -/
def Obligations.ResetAbandonsTheCommandInFlight : Prop :=
  (∀ s rest, s.script = .reset :: rest →
    ∃ t, step s = .next t ∧ t.ctrlWord = 0 ∧ t.statusWord = 0 ∧ t.rkaddrWord = 0 ∧ t.key = State.reset.key ∧
      t.data = State.reset.data ∧ t.pend = none ∧ t.irq = false ∧ t.script = rest) ∧
  ∀ s u rest, s.script = .reset :: rest → u.script = .reset :: rest → s.draws = u.draws → step s = step u

/-! ## Packing, field and tables -/

/-- Rules R40 and R41: S[r][c] is block byte b[r + 4c], with b[4k..4k+3] the bytes of DATAk from bits [31:24] down, and writing the state
back is the inverse of reading it. -/
def Obligations.BlockPacksByColumns : Prop :=
  (∀ (d : Vector Word 4) (r c : Fin 4), (toGrid d).entry r c = blockByte d (r.val + 4 * c.val)) ∧
  (∀ d, fromGrid (toGrid d) = d) ∧ ∀ S, toGrid (fromGrid S) = S

/-- Rule R100: gmul is the product of polynomials over GF(2) reduced modulo 0x11B. -/
def Obligations.GmulIsThePolynomialProduct : Prop :=
  ∀ a b : Byte, gmul a b = polyReduce (polyProduct a b)

/-- Rule R103: gmul has zero and one, commutes, distributes over exclusive OR, and every non-zero byte has a unique inverse; 0x53 and
0xCA, and 0x02 and 0x8D, are inverses. -/
def Obligations.GmulIsAFieldMultiplication : Prop :=
  (∀ a, gmul a 0 = 0) ∧ (∀ a, gmul a 1 = a) ∧ (∀ a b, gmul a b = gmul b a) ∧
  (∀ a b c, gmul a (b ^^^ c) = gmul a b ^^^ gmul a c) ∧
  (∀ a, a ≠ 0 → ∃ x, gmul a x = 1 ∧ ∀ y, gmul a y = 1 → y = x) ∧ gmul 0x53 0xCA = 1 ∧ gmul 0x02 0x8D = 1

/-- Rule R105: the S-box is the affine map over the field inverse, with 0 for the inverse of 0. -/
def Obligations.SboxIsTheAffineMapOfTheInverse : Prop :=
  (∀ i < 8, (sbox 0).getLsbD i = affineBit 0 i) ∧
  ∀ x y : Byte, gmul x y = 1 → ∀ i < 8, (sbox x).getLsbD i = affineBit y i

/-- Rule R106: the inverse S-box is the inverse permutation of the S-box, with the rule's spot values; rule R104's S-box has no fixed
point. -/
def Obligations.InverseSboxUndoesTheSbox : Prop :=
  (∀ x, invSbox (sbox x) = x) ∧ (∀ y, sbox (invSbox y) = y) ∧ (∀ x, sbox x ≠ x ∧ sbox x ≠ x ^^^ 0xFF) ∧
  invSbox 0x63 = 0x00 ∧ invSbox 0x00 = 0x52 ∧ invSbox 0x16 = 0xFF ∧ invSbox 0xED = 0x53

/-! ## The key schedule -/

/-- Rules R121 and R122: RotWord is `(w << 8) | (w >> 24)`, and SubWord puts each byte through the S-box. -/
def Obligations.RotWordRotatesOneByte : Prop :=
  (∀ w, rotWord w = (w <<< 8) ||| (w >>> 24)) ∧ rotWord 0x09CF4F3C = 0xCF4F3C09 ∧
  (∀ c, subWord (word c) = word ⟨sbox c.a0, sbox c.a1, sbox c.a2, sbox c.a3⟩) ∧ subWord 0xCF4F3C09 = 0x8A84EB01

/-- Rules R123 to R126: for the three key sizes, the expansion has 4(Nr + 1) words, begins with the key, and each later word is the word
Nk back XORed with the preceding word, transformed at the positions the rules name. Rule R107: the round constants are the
ten of its table, `Rcon[1] = 0x01` and each the xtime of the one before. -/
def Obligations.ExpansionFollowsItsRecurrence : Prop :=
  (∀ (k : List Word) (nk nr : Nat), k.length = nk → nk = 4 ∨ nk = 6 ∨ nk = 8 → nr = nk + 6 →
    let w := keyExpansion k nk nr
    w.length = 4 * (nr + 1) ∧ (∀ i < nk, w.getD i 0 = k.getD i 0) ∧
    ∀ i, nk ≤ i → i < 4 * (nr + 1) →
      w.getD i 0 = w.getD (i - nk) 0 ^^^
        (if i % nk = 0 then subWord (rotWord (w.getD (i - 1) 0)) ^^^ ((rcon (i / nk)).setWidth 32 <<< 24)
         else if nk = 8 ∧ i % nk = 4 then subWord (w.getD (i - 1) 0)
         else w.getD (i - 1) 0)) ∧
  (∀ j, 1 ≤ j → j < 10 → rcon (j + 1) = xtime (rcon j)) ∧
  (List.range' 1 10).map rcon = [0x01, 0x02, 0x04, 0x08, 0x10, 0x20, 0x40, 0x80, 0x1B, 0x36]

/-! ## Round transforms and the cipher -/

/-- Rules R142 and R143: ShiftRows is S'[r][c] = S[r][(c + r) mod 4], and InvShiftRows is S'[r][c] = S[r][(c - r) mod 4]. -/
def Obligations.ShiftRowsMovesTheRows : Prop :=
  ∀ (S : Grid) (r c : Fin 4),
    (shiftRows S).entry r c = S.entry r ⟨(c.val + r.val) % 4, Nat.mod_lt _ (by decide)⟩ ∧
    (invShiftRows S).entry r c = S.entry r ⟨(c.val + 4 - r.val) % 4, Nat.mod_lt _ (by decide)⟩

/-- Rules R144 and R145: MixColumns and InvMixColumns written out, byte by byte of each column. -/
def Obligations.MixColumnsMultipliesByTheMatrices : Prop :=
  ∀ (S : Grid) (c : Fin 4),
    let s0 := S.entry 0 c
    let s1 := S.entry 1 c
    let s2 := S.entry 2 c
    let s3 := S.entry 3 c
    (mixColumns S).entry 0 c = gmul 2 s0 ^^^ gmul 3 s1 ^^^ s2 ^^^ s3 ∧
    (mixColumns S).entry 1 c = s0 ^^^ gmul 2 s1 ^^^ gmul 3 s2 ^^^ s3 ∧
    (mixColumns S).entry 2 c = s0 ^^^ s1 ^^^ gmul 2 s2 ^^^ gmul 3 s3 ∧
    (mixColumns S).entry 3 c = gmul 3 s0 ^^^ s1 ^^^ s2 ^^^ gmul 2 s3 ∧
    (invMixColumns S).entry 0 c = gmul 0x0E s0 ^^^ gmul 0x0B s1 ^^^ gmul 0x0D s2 ^^^ gmul 0x09 s3 ∧
    (invMixColumns S).entry 1 c = gmul 0x09 s0 ^^^ gmul 0x0E s1 ^^^ gmul 0x0B s2 ^^^ gmul 0x0D s3 ∧
    (invMixColumns S).entry 2 c = gmul 0x0D s0 ^^^ gmul 0x09 s1 ^^^ gmul 0x0E s2 ^^^ gmul 0x0B s3 ∧
    (invMixColumns S).entry 3 c = gmul 0x0B s0 ^^^ gmul 0x0D s1 ^^^ gmul 0x09 s2 ^^^ gmul 0x0E s3

/-- Rule R147: the inverse laws, for every state, every RAM and every round-key index, and the two commuting pairs. -/
def Obligations.TransformsHaveTheirInverses : Prop :=
  ∀ (S : Grid) (rk : Vector Word 60) (i : Nat),
    invSubBytes (subBytes S) = S ∧ subBytes (invSubBytes S) = S ∧
    invShiftRows (shiftRows S) = S ∧ shiftRows (invShiftRows S) = S ∧
    invMixColumns (mixColumns S) = S ∧ mixColumns (invMixColumns S) = S ∧
    addRoundKey rk i (addRoundKey rk i S) = S ∧
    subBytes (shiftRows S) = shiftRows (subBytes S) ∧ invSubBytes (invShiftRows S) = invShiftRows (invSubBytes S)

/-- Rule R173: ENCRYPT and DECRYPT at Nr rounds use the round keys 0 to Nr and no other RAM word. -/
def Obligations.CiphersUseTheirRoundKeysOnly : Prop :=
  ∀ (rk rk' : Vector Word 60) (nr : Nat) (S : Grid), (∀ j < 4 * (nr + 1), rkWord rk j = rkWord rk' j) →
    cipher rk nr S = cipher rk' nr S ∧ invCipher rk nr S = invCipher rk' nr S

/-- Rule R174: the round trip in both directions, for every round count, every RAM and every state. -/
def Obligations.CipherRoundTrip : Prop :=
  ∀ (rk : Vector Word 60) (nr : Nat) (S : Grid),
    invCipher rk nr (cipher rk nr S) = S ∧ cipher rk nr (invCipher rk nr S) = S

/-- Rule R174 in the register interface: from an idle machine with a valid key, ENCRYPT and its completion followed by DECRYPT and its
completion leave DATA0..3, and every other register but DONE, as they were; and so in the other order. -/
def Obligations.EncryptThenDecryptRestoresTheData : Prop :=
  ∀ (s : State) (rest : List Event) (first second : Instr),
    (first = .encrypt ∧ second = .decrypt) ∨ (first = .decrypt ∧ second = .encrypt) →
    s.busy = false → s.pend = none → s.keyvalid = true →
    s.script = writeOf .cmd (encode first) :: .engineComplete :: writeOf .cmd (encode second) :: .engineComplete :: rest →
    Host.Core.run core 4 s =
      .next { s with done := true, agent := .engine, script := rest, resp := some (.okay none) }

/-! ## The whole machine -/

/-- Rules R27 to R30 and R43: every step of the machine keeps the invariant: the handshake, the error record, the key record (KEYVALID = 1
only over the complete expansion of the current key at the current size) and the captured operands. -/
def Obligations.EveryStepKeepsTheInvariant : Prop :=
  ∀ s t : State, s.Inv → step s = .next t → t.Inv

/-- The invariant holds right after reset. -/
def Obligations.InvariantHoldsAtReset : Prop := State.reset.Inv

/-- Rule R42: words of the round-key RAM that no valid expansion covers are never observed: two states of the invariant that differ in such
words alone step to two states that do, so the host sees the same of both for ever. -/
def Obligations.UnexpandedKeyWordsAreNeverObserved : Prop :=
  ∀ s t s' t' : State, s.Inv → s.agreeOnKeys t → step s = .next s' → step t = .next t' → s'.agreeOnKeys t' ∧ s'.resp = t'.resp

/-- Rules R26 and R27: BUSY rises only in a CMD write that is accepted and falls only in a completion or a reset; DONE rises only in a
completion, and falls only in an acceptance, a STATUS write with v[1] = 1 or a reset. -/
def Obligations.OnlyTheNamedEventsMoveBusyAndDone : Prop :=
  ∀ s t : State, step s = .next t →
    (s.busy = false → t.busy = true → ∃ w rest, s.script = writeOf .cmd w :: rest ∧ firstError s w = none) ∧
    (s.busy = true → t.busy = false →
      (∃ rest p, engineNext s rest ∧ s.pend = some p) ∨ ∃ rest, s.script = .reset :: rest) ∧
    (s.done = false → t.done = true → ∃ rest p, engineNext s rest ∧ s.pend = some p) ∧
    (s.done = true → t.done = false →
      (∃ w rest, s.script = writeOf .cmd w :: rest ∧ firstError s w = none) ∨
      (∃ v rest, s.script = writeOf .status v :: rest ∧ v.getLsbD 1 = true) ∨ ∃ rest, s.script = .reset :: rest)

/-- Rules R28 and R238: KEYVALID rises only in the completion of an EXPAND, and falls only in the acceptance of EXPAND or CLEAR, a KEY
write, a CTRL write that changes KSZ, or a reset. -/
def Obligations.OnlyTheNamedEventsMoveKeyvalid : Prop :=
  ∀ s t : State, step s = .next t →
    (s.keyvalid = false → t.keyvalid = true → ∃ rest k nk nr, engineNext s rest ∧ s.pend = some (.expand k nk nr)) ∧
    (s.keyvalid = true → t.keyvalid = false →
      (∃ w rest, s.script = writeOf .cmd w :: rest ∧ (w = 0x00000001 ∨ w = 0x00000004) ∧ firstError s w = none) ∨
      (∃ k v rest, s.script = writeOf (.key k) v :: rest ∧ s.busy = false) ∨
      (∃ v rest, s.script = writeOf .ctrl v :: rest ∧ s.busy = false ∧ v.extractLsb' 0 2 ≠ s.ksz) ∨
      ∃ rest, s.script = .reset :: rest)

/-- Rule R240: completion is taken after any finite number of host accesses. A command in flight, with no reset among the events to come,
reaches its completion step within those events; and when the schedule has run out and one more step is taken, no command is in
flight. A reset abandons a command instead (rule R231). That the engine completes when the schedule has ended is the model's form of
the rule's fairness (log entry 2, DEDUCED), which both clauses rest on. -/
def Obligations.CommandsInFlightCompleteUnlessReset : Prop :=
  (∀ (s : State) (p : Pending), s.Inv → s.pend = some p → .reset ∉ s.script →
    ∃ n ≤ s.script.length, ∃ u rest, Host.Core.run core n s = .next u ∧ u.pend = some p ∧ engineNext u rest) ∧
  ∀ s : State, s.Inv →
    ∃ t, Host.Core.run core (s.script.length + 1) s = .next t ∧ t.script = [] ∧ t.pend = none ∧ t.busy = false
end

