-- ==== Sys2Proof/Laws/State.lean ====
section
/-!
SUPPORT. What each register update of Machine/Ops.lean does to each field of the state: one lemma per field per update, true by
unfolding, so that no later proof unfolds a record update.
-/

namespace Sys2Proof.Machine

variable (s : State)

@[simp] theorem State.dropKey_ksz : s.dropKey.ksz = s.ksz := rfl
@[simp] theorem State.dropKey_ieDone : s.dropKey.ieDone = s.ieDone := rfl
@[simp] theorem State.dropKey_ieErr : s.dropKey.ieErr = s.ieErr := rfl
@[simp] theorem State.dropKey_busy : s.dropKey.busy = s.busy := rfl
@[simp] theorem State.dropKey_done : s.dropKey.done = s.done := rfl
@[simp] theorem State.dropKey_errv : s.dropKey.errv = s.errv := rfl
@[simp] theorem State.dropKey_keyvalid : s.dropKey.keyvalid = false := rfl
@[simp] theorem State.dropKey_errcode : s.dropKey.errcode = s.errcode := rfl
@[simp] theorem State.dropKey_knr : s.dropKey.knr = 0 := rfl
@[simp] theorem State.dropKey_idx : s.dropKey.idx = s.idx := rfl
@[simp] theorem State.dropKey_key : s.dropKey.key = s.key := rfl
@[simp] theorem State.dropKey_data : s.dropKey.data = s.data := rfl
@[simp] theorem State.dropKey_rk : s.dropKey.rk = s.rk := rfl
@[simp] theorem State.dropKey_pend : s.dropKey.pend = s.pend := rfl
@[simp] theorem State.dropKey_agent : s.dropKey.agent = s.agent := rfl
@[simp] theorem State.dropKey_script : s.dropKey.script = s.script := rfl
@[simp] theorem State.dropKey_resp : s.dropKey.resp = s.resp := rfl
@[simp] theorem State.dropKey_draws : s.dropKey.draws = s.draws := rfl

@[simp] theorem State.setCtrl_ksz (v : Word) : (State.setCtrl v s).ksz = v.extractLsb' 0 2 := rfl
@[simp] theorem State.setCtrl_ieDone (v : Word) : (State.setCtrl v s).ieDone = v.getLsbD 4 := rfl
@[simp] theorem State.setCtrl_ieErr (v : Word) : (State.setCtrl v s).ieErr = v.getLsbD 5 := rfl
@[simp] theorem State.setCtrl_busy (v : Word) : (State.setCtrl v s).busy = s.busy := rfl
@[simp] theorem State.setCtrl_done (v : Word) : (State.setCtrl v s).done = s.done := rfl
@[simp] theorem State.setCtrl_errv (v : Word) : (State.setCtrl v s).errv = s.errv := rfl
@[simp] theorem State.setCtrl_keyvalid (v : Word) : (State.setCtrl v s).keyvalid = s.keyvalid := rfl
@[simp] theorem State.setCtrl_errcode (v : Word) : (State.setCtrl v s).errcode = s.errcode := rfl
@[simp] theorem State.setCtrl_knr (v : Word) : (State.setCtrl v s).knr = s.knr := rfl
@[simp] theorem State.setCtrl_idx (v : Word) : (State.setCtrl v s).idx = s.idx := rfl
@[simp] theorem State.setCtrl_key (v : Word) : (State.setCtrl v s).key = s.key := rfl
@[simp] theorem State.setCtrl_data (v : Word) : (State.setCtrl v s).data = s.data := rfl
@[simp] theorem State.setCtrl_rk (v : Word) : (State.setCtrl v s).rk = s.rk := rfl
@[simp] theorem State.setCtrl_pend (v : Word) : (State.setCtrl v s).pend = s.pend := rfl
@[simp] theorem State.setCtrl_agent (v : Word) : (State.setCtrl v s).agent = s.agent := rfl
@[simp] theorem State.setCtrl_script (v : Word) : (State.setCtrl v s).script = s.script := rfl
@[simp] theorem State.setCtrl_resp (v : Word) : (State.setCtrl v s).resp = s.resp := rfl
@[simp] theorem State.setCtrl_draws (v : Word) : (State.setCtrl v s).draws = s.draws := rfl

@[simp] theorem State.setIdx_ksz (v : Word) : (State.setIdx v s).ksz = s.ksz := rfl
@[simp] theorem State.setIdx_ieDone (v : Word) : (State.setIdx v s).ieDone = s.ieDone := rfl
@[simp] theorem State.setIdx_ieErr (v : Word) : (State.setIdx v s).ieErr = s.ieErr := rfl
@[simp] theorem State.setIdx_busy (v : Word) : (State.setIdx v s).busy = s.busy := rfl
@[simp] theorem State.setIdx_done (v : Word) : (State.setIdx v s).done = s.done := rfl
@[simp] theorem State.setIdx_errv (v : Word) : (State.setIdx v s).errv = s.errv := rfl
@[simp] theorem State.setIdx_keyvalid (v : Word) : (State.setIdx v s).keyvalid = s.keyvalid := rfl
@[simp] theorem State.setIdx_errcode (v : Word) : (State.setIdx v s).errcode = s.errcode := rfl
@[simp] theorem State.setIdx_knr (v : Word) : (State.setIdx v s).knr = s.knr := rfl
@[simp] theorem State.setIdx_idx (v : Word) : (State.setIdx v s).idx = v.extractLsb' 0 6 := rfl
@[simp] theorem State.setIdx_key (v : Word) : (State.setIdx v s).key = s.key := rfl
@[simp] theorem State.setIdx_data (v : Word) : (State.setIdx v s).data = s.data := rfl
@[simp] theorem State.setIdx_rk (v : Word) : (State.setIdx v s).rk = s.rk := rfl
@[simp] theorem State.setIdx_pend (v : Word) : (State.setIdx v s).pend = s.pend := rfl
@[simp] theorem State.setIdx_agent (v : Word) : (State.setIdx v s).agent = s.agent := rfl
@[simp] theorem State.setIdx_script (v : Word) : (State.setIdx v s).script = s.script := rfl
@[simp] theorem State.setIdx_resp (v : Word) : (State.setIdx v s).resp = s.resp := rfl
@[simp] theorem State.setIdx_draws (v : Word) : (State.setIdx v s).draws = s.draws := rfl

@[simp] theorem State.setKey_ksz (k : Fin 8) (v : Word) : (State.setKey k v s).ksz = s.ksz := rfl
@[simp] theorem State.setKey_ieDone (k : Fin 8) (v : Word) : (State.setKey k v s).ieDone = s.ieDone := rfl
@[simp] theorem State.setKey_ieErr (k : Fin 8) (v : Word) : (State.setKey k v s).ieErr = s.ieErr := rfl
@[simp] theorem State.setKey_busy (k : Fin 8) (v : Word) : (State.setKey k v s).busy = s.busy := rfl
@[simp] theorem State.setKey_done (k : Fin 8) (v : Word) : (State.setKey k v s).done = s.done := rfl
@[simp] theorem State.setKey_errv (k : Fin 8) (v : Word) : (State.setKey k v s).errv = s.errv := rfl
@[simp] theorem State.setKey_keyvalid (k : Fin 8) (v : Word) : (State.setKey k v s).keyvalid = s.keyvalid := rfl
@[simp] theorem State.setKey_errcode (k : Fin 8) (v : Word) : (State.setKey k v s).errcode = s.errcode := rfl
@[simp] theorem State.setKey_knr (k : Fin 8) (v : Word) : (State.setKey k v s).knr = s.knr := rfl
@[simp] theorem State.setKey_idx (k : Fin 8) (v : Word) : (State.setKey k v s).idx = s.idx := rfl
@[simp] theorem State.setKey_key (k : Fin 8) (v : Word) : (State.setKey k v s).key = s.key.set k v := rfl
@[simp] theorem State.setKey_data (k : Fin 8) (v : Word) : (State.setKey k v s).data = s.data := rfl
@[simp] theorem State.setKey_rk (k : Fin 8) (v : Word) : (State.setKey k v s).rk = s.rk := rfl
@[simp] theorem State.setKey_pend (k : Fin 8) (v : Word) : (State.setKey k v s).pend = s.pend := rfl
@[simp] theorem State.setKey_agent (k : Fin 8) (v : Word) : (State.setKey k v s).agent = s.agent := rfl
@[simp] theorem State.setKey_script (k : Fin 8) (v : Word) : (State.setKey k v s).script = s.script := rfl
@[simp] theorem State.setKey_resp (k : Fin 8) (v : Word) : (State.setKey k v s).resp = s.resp := rfl
@[simp] theorem State.setKey_draws (k : Fin 8) (v : Word) : (State.setKey k v s).draws = s.draws := rfl

@[simp] theorem State.setData_ksz (k : Fin 4) (v : Word) : (State.setData k v s).ksz = s.ksz := rfl
@[simp] theorem State.setData_ieDone (k : Fin 4) (v : Word) : (State.setData k v s).ieDone = s.ieDone := rfl
@[simp] theorem State.setData_ieErr (k : Fin 4) (v : Word) : (State.setData k v s).ieErr = s.ieErr := rfl
@[simp] theorem State.setData_busy (k : Fin 4) (v : Word) : (State.setData k v s).busy = s.busy := rfl
@[simp] theorem State.setData_done (k : Fin 4) (v : Word) : (State.setData k v s).done = s.done := rfl
@[simp] theorem State.setData_errv (k : Fin 4) (v : Word) : (State.setData k v s).errv = s.errv := rfl
@[simp] theorem State.setData_keyvalid (k : Fin 4) (v : Word) : (State.setData k v s).keyvalid = s.keyvalid := rfl
@[simp] theorem State.setData_errcode (k : Fin 4) (v : Word) : (State.setData k v s).errcode = s.errcode := rfl
@[simp] theorem State.setData_knr (k : Fin 4) (v : Word) : (State.setData k v s).knr = s.knr := rfl
@[simp] theorem State.setData_idx (k : Fin 4) (v : Word) : (State.setData k v s).idx = s.idx := rfl
@[simp] theorem State.setData_key (k : Fin 4) (v : Word) : (State.setData k v s).key = s.key := rfl
@[simp] theorem State.setData_data (k : Fin 4) (v : Word) : (State.setData k v s).data = s.data.set k v := rfl
@[simp] theorem State.setData_rk (k : Fin 4) (v : Word) : (State.setData k v s).rk = s.rk := rfl
@[simp] theorem State.setData_pend (k : Fin 4) (v : Word) : (State.setData k v s).pend = s.pend := rfl
@[simp] theorem State.setData_agent (k : Fin 4) (v : Word) : (State.setData k v s).agent = s.agent := rfl
@[simp] theorem State.setData_script (k : Fin 4) (v : Word) : (State.setData k v s).script = s.script := rfl
@[simp] theorem State.setData_resp (k : Fin 4) (v : Word) : (State.setData k v s).resp = s.resp := rfl
@[simp] theorem State.setData_draws (k : Fin 4) (v : Word) : (State.setData k v s).draws = s.draws := rfl

@[simp] theorem State.setBlock_ksz (S : Grid) : (State.setBlock S s).ksz = s.ksz := rfl
@[simp] theorem State.setBlock_ieDone (S : Grid) : (State.setBlock S s).ieDone = s.ieDone := rfl
@[simp] theorem State.setBlock_ieErr (S : Grid) : (State.setBlock S s).ieErr = s.ieErr := rfl
@[simp] theorem State.setBlock_busy (S : Grid) : (State.setBlock S s).busy = s.busy := rfl
@[simp] theorem State.setBlock_done (S : Grid) : (State.setBlock S s).done = s.done := rfl
@[simp] theorem State.setBlock_errv (S : Grid) : (State.setBlock S s).errv = s.errv := rfl
@[simp] theorem State.setBlock_keyvalid (S : Grid) : (State.setBlock S s).keyvalid = s.keyvalid := rfl
@[simp] theorem State.setBlock_errcode (S : Grid) : (State.setBlock S s).errcode = s.errcode := rfl
@[simp] theorem State.setBlock_knr (S : Grid) : (State.setBlock S s).knr = s.knr := rfl
@[simp] theorem State.setBlock_idx (S : Grid) : (State.setBlock S s).idx = s.idx := rfl
@[simp] theorem State.setBlock_key (S : Grid) : (State.setBlock S s).key = s.key := rfl
@[simp] theorem State.setBlock_data (S : Grid) : (State.setBlock S s).data = fromGrid S := rfl
@[simp] theorem State.setBlock_rk (S : Grid) : (State.setBlock S s).rk = s.rk := rfl
@[simp] theorem State.setBlock_pend (S : Grid) : (State.setBlock S s).pend = s.pend := rfl
@[simp] theorem State.setBlock_agent (S : Grid) : (State.setBlock S s).agent = s.agent := rfl
@[simp] theorem State.setBlock_script (S : Grid) : (State.setBlock S s).script = s.script := rfl
@[simp] theorem State.setBlock_resp (S : Grid) : (State.setBlock S s).resp = s.resp := rfl
@[simp] theorem State.setBlock_draws (S : Grid) : (State.setBlock S s).draws = s.draws := rfl

@[simp] theorem State.loadKeys_ksz (w : List Word) (nr : Nat) : (State.loadKeys w nr s).ksz = s.ksz := rfl
@[simp] theorem State.loadKeys_ieDone (w : List Word) (nr : Nat) : (State.loadKeys w nr s).ieDone = s.ieDone := rfl
@[simp] theorem State.loadKeys_ieErr (w : List Word) (nr : Nat) : (State.loadKeys w nr s).ieErr = s.ieErr := rfl
@[simp] theorem State.loadKeys_busy (w : List Word) (nr : Nat) : (State.loadKeys w nr s).busy = s.busy := rfl
@[simp] theorem State.loadKeys_done (w : List Word) (nr : Nat) : (State.loadKeys w nr s).done = s.done := rfl
@[simp] theorem State.loadKeys_errv (w : List Word) (nr : Nat) : (State.loadKeys w nr s).errv = s.errv := rfl
@[simp] theorem State.loadKeys_keyvalid (w : List Word) (nr : Nat) : (State.loadKeys w nr s).keyvalid = true := rfl
@[simp] theorem State.loadKeys_errcode (w : List Word) (nr : Nat) : (State.loadKeys w nr s).errcode = s.errcode := rfl
@[simp] theorem State.loadKeys_knr (w : List Word) (nr : Nat) : (State.loadKeys w nr s).knr = BitVec.ofNat 4 nr := rfl
@[simp] theorem State.loadKeys_idx (w : List Word) (nr : Nat) : (State.loadKeys w nr s).idx = s.idx := rfl
@[simp] theorem State.loadKeys_key (w : List Word) (nr : Nat) : (State.loadKeys w nr s).key = s.key := rfl
@[simp] theorem State.loadKeys_data (w : List Word) (nr : Nat) : (State.loadKeys w nr s).data = s.data := rfl
@[simp] theorem State.loadKeys_rk (w : List Word) (nr : Nat) : (State.loadKeys w nr s).rk = Vector.ofFn fun j => if j.val < 4 * (nr + 1) then w.getD j 0 else s.rk[j] := rfl
@[simp] theorem State.loadKeys_pend (w : List Word) (nr : Nat) : (State.loadKeys w nr s).pend = s.pend := rfl
@[simp] theorem State.loadKeys_agent (w : List Word) (nr : Nat) : (State.loadKeys w nr s).agent = s.agent := rfl
@[simp] theorem State.loadKeys_script (w : List Word) (nr : Nat) : (State.loadKeys w nr s).script = s.script := rfl
@[simp] theorem State.loadKeys_resp (w : List Word) (nr : Nat) : (State.loadKeys w nr s).resp = s.resp := rfl
@[simp] theorem State.loadKeys_draws (w : List Word) (nr : Nat) : (State.loadKeys w nr s).draws = s.draws := rfl

@[simp] theorem State.wipe_ksz : s.wipe.ksz = s.ksz := rfl
@[simp] theorem State.wipe_ieDone : s.wipe.ieDone = s.ieDone := rfl
@[simp] theorem State.wipe_ieErr : s.wipe.ieErr = s.ieErr := rfl
@[simp] theorem State.wipe_busy : s.wipe.busy = s.busy := rfl
@[simp] theorem State.wipe_done : s.wipe.done = s.done := rfl
@[simp] theorem State.wipe_errv : s.wipe.errv = s.errv := rfl
@[simp] theorem State.wipe_keyvalid : s.wipe.keyvalid = s.keyvalid := rfl
@[simp] theorem State.wipe_errcode : s.wipe.errcode = s.errcode := rfl
@[simp] theorem State.wipe_knr : s.wipe.knr = s.knr := rfl
@[simp] theorem State.wipe_idx : s.wipe.idx = s.idx := rfl
@[simp] theorem State.wipe_key : s.wipe.key = Vector.replicate 8 0 := rfl
@[simp] theorem State.wipe_data : s.wipe.data = Vector.replicate 4 0 := rfl
@[simp] theorem State.wipe_rk : s.wipe.rk = Vector.replicate 60 0 := rfl
@[simp] theorem State.wipe_pend : s.wipe.pend = s.pend := rfl
@[simp] theorem State.wipe_agent : s.wipe.agent = s.agent := rfl
@[simp] theorem State.wipe_script : s.wipe.script = s.script := rfl
@[simp] theorem State.wipe_resp : s.wipe.resp = s.resp := rfl
@[simp] theorem State.wipe_draws : s.wipe.draws = s.draws := rfl

@[simp] theorem State.recordError_ksz (e : ErrorCode) : (State.recordError e s).ksz = s.ksz := rfl
@[simp] theorem State.recordError_ieDone (e : ErrorCode) : (State.recordError e s).ieDone = s.ieDone := rfl
@[simp] theorem State.recordError_ieErr (e : ErrorCode) : (State.recordError e s).ieErr = s.ieErr := rfl
@[simp] theorem State.recordError_busy (e : ErrorCode) : (State.recordError e s).busy = s.busy := rfl
@[simp] theorem State.recordError_done (e : ErrorCode) : (State.recordError e s).done = s.done := rfl
@[simp] theorem State.recordError_errv (e : ErrorCode) : (State.recordError e s).errv = true := rfl
@[simp] theorem State.recordError_keyvalid (e : ErrorCode) : (State.recordError e s).keyvalid = s.keyvalid := rfl
@[simp] theorem State.recordError_errcode (e : ErrorCode) : (State.recordError e s).errcode = e := rfl
@[simp] theorem State.recordError_knr (e : ErrorCode) : (State.recordError e s).knr = s.knr := rfl
@[simp] theorem State.recordError_idx (e : ErrorCode) : (State.recordError e s).idx = s.idx := rfl
@[simp] theorem State.recordError_key (e : ErrorCode) : (State.recordError e s).key = s.key := rfl
@[simp] theorem State.recordError_data (e : ErrorCode) : (State.recordError e s).data = s.data := rfl
@[simp] theorem State.recordError_rk (e : ErrorCode) : (State.recordError e s).rk = s.rk := rfl
@[simp] theorem State.recordError_pend (e : ErrorCode) : (State.recordError e s).pend = s.pend := rfl
@[simp] theorem State.recordError_agent (e : ErrorCode) : (State.recordError e s).agent = s.agent := rfl
@[simp] theorem State.recordError_script (e : ErrorCode) : (State.recordError e s).script = s.script := rfl
@[simp] theorem State.recordError_resp (e : ErrorCode) : (State.recordError e s).resp = s.resp := rfl
@[simp] theorem State.recordError_draws (e : ErrorCode) : (State.recordError e s).draws = s.draws := rfl

@[simp] theorem State.clearDone_ksz : s.clearDone.ksz = s.ksz := rfl
@[simp] theorem State.clearDone_ieDone : s.clearDone.ieDone = s.ieDone := rfl
@[simp] theorem State.clearDone_ieErr : s.clearDone.ieErr = s.ieErr := rfl
@[simp] theorem State.clearDone_busy : s.clearDone.busy = s.busy := rfl
@[simp] theorem State.clearDone_done : s.clearDone.done = false := rfl
@[simp] theorem State.clearDone_errv : s.clearDone.errv = s.errv := rfl
@[simp] theorem State.clearDone_keyvalid : s.clearDone.keyvalid = s.keyvalid := rfl
@[simp] theorem State.clearDone_errcode : s.clearDone.errcode = s.errcode := rfl
@[simp] theorem State.clearDone_knr : s.clearDone.knr = s.knr := rfl
@[simp] theorem State.clearDone_idx : s.clearDone.idx = s.idx := rfl
@[simp] theorem State.clearDone_key : s.clearDone.key = s.key := rfl
@[simp] theorem State.clearDone_data : s.clearDone.data = s.data := rfl
@[simp] theorem State.clearDone_rk : s.clearDone.rk = s.rk := rfl
@[simp] theorem State.clearDone_pend : s.clearDone.pend = s.pend := rfl
@[simp] theorem State.clearDone_agent : s.clearDone.agent = s.agent := rfl
@[simp] theorem State.clearDone_script : s.clearDone.script = s.script := rfl
@[simp] theorem State.clearDone_resp : s.clearDone.resp = s.resp := rfl
@[simp] theorem State.clearDone_draws : s.clearDone.draws = s.draws := rfl

@[simp] theorem State.clearError_ksz : s.clearError.ksz = s.ksz := rfl
@[simp] theorem State.clearError_ieDone : s.clearError.ieDone = s.ieDone := rfl
@[simp] theorem State.clearError_ieErr : s.clearError.ieErr = s.ieErr := rfl
@[simp] theorem State.clearError_busy : s.clearError.busy = s.busy := rfl
@[simp] theorem State.clearError_done : s.clearError.done = s.done := rfl
@[simp] theorem State.clearError_errv : s.clearError.errv = false := rfl
@[simp] theorem State.clearError_keyvalid : s.clearError.keyvalid = s.keyvalid := rfl
@[simp] theorem State.clearError_errcode : s.clearError.errcode = .noError := rfl
@[simp] theorem State.clearError_knr : s.clearError.knr = s.knr := rfl
@[simp] theorem State.clearError_idx : s.clearError.idx = s.idx := rfl
@[simp] theorem State.clearError_key : s.clearError.key = s.key := rfl
@[simp] theorem State.clearError_data : s.clearError.data = s.data := rfl
@[simp] theorem State.clearError_rk : s.clearError.rk = s.rk := rfl
@[simp] theorem State.clearError_pend : s.clearError.pend = s.pend := rfl
@[simp] theorem State.clearError_agent : s.clearError.agent = s.agent := rfl
@[simp] theorem State.clearError_script : s.clearError.script = s.script := rfl
@[simp] theorem State.clearError_resp : s.clearError.resp = s.resp := rfl
@[simp] theorem State.clearError_draws : s.clearError.draws = s.draws := rfl

@[simp] theorem State.startCommand_ksz (p : Pending) : (State.startCommand p s).ksz = s.ksz := rfl
@[simp] theorem State.startCommand_ieDone (p : Pending) : (State.startCommand p s).ieDone = s.ieDone := rfl
@[simp] theorem State.startCommand_ieErr (p : Pending) : (State.startCommand p s).ieErr = s.ieErr := rfl
@[simp] theorem State.startCommand_busy (p : Pending) : (State.startCommand p s).busy = true := rfl
@[simp] theorem State.startCommand_done (p : Pending) : (State.startCommand p s).done = false := rfl
@[simp] theorem State.startCommand_errv (p : Pending) : (State.startCommand p s).errv = s.errv := rfl
@[simp] theorem State.startCommand_keyvalid (p : Pending) : (State.startCommand p s).keyvalid = s.keyvalid := rfl
@[simp] theorem State.startCommand_errcode (p : Pending) : (State.startCommand p s).errcode = s.errcode := rfl
@[simp] theorem State.startCommand_knr (p : Pending) : (State.startCommand p s).knr = s.knr := rfl
@[simp] theorem State.startCommand_idx (p : Pending) : (State.startCommand p s).idx = s.idx := rfl
@[simp] theorem State.startCommand_key (p : Pending) : (State.startCommand p s).key = s.key := rfl
@[simp] theorem State.startCommand_data (p : Pending) : (State.startCommand p s).data = s.data := rfl
@[simp] theorem State.startCommand_rk (p : Pending) : (State.startCommand p s).rk = s.rk := rfl
@[simp] theorem State.startCommand_pend (p : Pending) : (State.startCommand p s).pend = some p := rfl
@[simp] theorem State.startCommand_agent (p : Pending) : (State.startCommand p s).agent = s.agent := rfl
@[simp] theorem State.startCommand_script (p : Pending) : (State.startCommand p s).script = s.script := rfl
@[simp] theorem State.startCommand_resp (p : Pending) : (State.startCommand p s).resp = s.resp := rfl
@[simp] theorem State.startCommand_draws (p : Pending) : (State.startCommand p s).draws = s.draws := rfl

@[simp] theorem State.complete_ksz : s.complete.ksz = s.ksz := rfl
@[simp] theorem State.complete_ieDone : s.complete.ieDone = s.ieDone := rfl
@[simp] theorem State.complete_ieErr : s.complete.ieErr = s.ieErr := rfl
@[simp] theorem State.complete_busy : s.complete.busy = false := rfl
@[simp] theorem State.complete_done : s.complete.done = true := rfl
@[simp] theorem State.complete_errv : s.complete.errv = s.errv := rfl
@[simp] theorem State.complete_keyvalid : s.complete.keyvalid = s.keyvalid := rfl
@[simp] theorem State.complete_errcode : s.complete.errcode = s.errcode := rfl
@[simp] theorem State.complete_knr : s.complete.knr = s.knr := rfl
@[simp] theorem State.complete_idx : s.complete.idx = s.idx := rfl
@[simp] theorem State.complete_key : s.complete.key = s.key := rfl
@[simp] theorem State.complete_data : s.complete.data = s.data := rfl
@[simp] theorem State.complete_rk : s.complete.rk = s.rk := rfl
@[simp] theorem State.complete_pend : s.complete.pend = none := rfl
@[simp] theorem State.complete_agent : s.complete.agent = s.agent := rfl
@[simp] theorem State.complete_script : s.complete.script = s.script := rfl
@[simp] theorem State.complete_resp : s.complete.resp = s.resp := rfl
@[simp] theorem State.complete_draws : s.complete.draws = s.draws := rfl

@[simp] theorem State.draw_ksz (n : Nat) : (State.draw n s).ksz = s.ksz := rfl
@[simp] theorem State.draw_ieDone (n : Nat) : (State.draw n s).ieDone = s.ieDone := rfl
@[simp] theorem State.draw_ieErr (n : Nat) : (State.draw n s).ieErr = s.ieErr := rfl
@[simp] theorem State.draw_busy (n : Nat) : (State.draw n s).busy = s.busy := rfl
@[simp] theorem State.draw_done (n : Nat) : (State.draw n s).done = s.done := rfl
@[simp] theorem State.draw_errv (n : Nat) : (State.draw n s).errv = s.errv := rfl
@[simp] theorem State.draw_keyvalid (n : Nat) : (State.draw n s).keyvalid = s.keyvalid := rfl
@[simp] theorem State.draw_errcode (n : Nat) : (State.draw n s).errcode = s.errcode := rfl
@[simp] theorem State.draw_knr (n : Nat) : (State.draw n s).knr = s.knr := rfl
@[simp] theorem State.draw_idx (n : Nat) : (State.draw n s).idx = s.idx := rfl
@[simp] theorem State.draw_key (n : Nat) : (State.draw n s).key = s.key := rfl
@[simp] theorem State.draw_data (n : Nat) : (State.draw n s).data = s.data := rfl
@[simp] theorem State.draw_rk (n : Nat) : (State.draw n s).rk = s.rk := rfl
@[simp] theorem State.draw_pend (n : Nat) : (State.draw n s).pend = s.pend := rfl
@[simp] theorem State.draw_agent (n : Nat) : (State.draw n s).agent = s.agent := rfl
@[simp] theorem State.draw_script (n : Nat) : (State.draw n s).script = s.script := rfl
@[simp] theorem State.draw_resp (n : Nat) : (State.draw n s).resp = s.resp := rfl
@[simp] theorem State.draw_draws (n : Nat) : (State.draw n s).draws = s.draws + n := rfl

@[simp] theorem State.respond_ksz (r : Response) : (State.respond r s).ksz = s.ksz := rfl
@[simp] theorem State.respond_ieDone (r : Response) : (State.respond r s).ieDone = s.ieDone := rfl
@[simp] theorem State.respond_ieErr (r : Response) : (State.respond r s).ieErr = s.ieErr := rfl
@[simp] theorem State.respond_busy (r : Response) : (State.respond r s).busy = s.busy := rfl
@[simp] theorem State.respond_done (r : Response) : (State.respond r s).done = s.done := rfl
@[simp] theorem State.respond_errv (r : Response) : (State.respond r s).errv = s.errv := rfl
@[simp] theorem State.respond_keyvalid (r : Response) : (State.respond r s).keyvalid = s.keyvalid := rfl
@[simp] theorem State.respond_errcode (r : Response) : (State.respond r s).errcode = s.errcode := rfl
@[simp] theorem State.respond_knr (r : Response) : (State.respond r s).knr = s.knr := rfl
@[simp] theorem State.respond_idx (r : Response) : (State.respond r s).idx = s.idx := rfl
@[simp] theorem State.respond_key (r : Response) : (State.respond r s).key = s.key := rfl
@[simp] theorem State.respond_data (r : Response) : (State.respond r s).data = s.data := rfl
@[simp] theorem State.respond_rk (r : Response) : (State.respond r s).rk = s.rk := rfl
@[simp] theorem State.respond_pend (r : Response) : (State.respond r s).pend = s.pend := rfl
@[simp] theorem State.respond_agent (r : Response) : (State.respond r s).agent = s.agent := rfl
@[simp] theorem State.respond_script (r : Response) : (State.respond r s).script = s.script := rfl
@[simp] theorem State.respond_resp (r : Response) : (State.respond r s).resp = some r := rfl
@[simp] theorem State.respond_draws (r : Response) : (State.respond r s).draws = s.draws := rfl

@[simp] theorem State.turn_ksz (g : Agent) (rest : List Event) : (State.turn g rest s).ksz = s.ksz := rfl
@[simp] theorem State.turn_ieDone (g : Agent) (rest : List Event) : (State.turn g rest s).ieDone = s.ieDone := rfl
@[simp] theorem State.turn_ieErr (g : Agent) (rest : List Event) : (State.turn g rest s).ieErr = s.ieErr := rfl
@[simp] theorem State.turn_busy (g : Agent) (rest : List Event) : (State.turn g rest s).busy = s.busy := rfl
@[simp] theorem State.turn_done (g : Agent) (rest : List Event) : (State.turn g rest s).done = s.done := rfl
@[simp] theorem State.turn_errv (g : Agent) (rest : List Event) : (State.turn g rest s).errv = s.errv := rfl
@[simp] theorem State.turn_keyvalid (g : Agent) (rest : List Event) : (State.turn g rest s).keyvalid = s.keyvalid := rfl
@[simp] theorem State.turn_errcode (g : Agent) (rest : List Event) : (State.turn g rest s).errcode = s.errcode := rfl
@[simp] theorem State.turn_knr (g : Agent) (rest : List Event) : (State.turn g rest s).knr = s.knr := rfl
@[simp] theorem State.turn_idx (g : Agent) (rest : List Event) : (State.turn g rest s).idx = s.idx := rfl
@[simp] theorem State.turn_key (g : Agent) (rest : List Event) : (State.turn g rest s).key = s.key := rfl
@[simp] theorem State.turn_data (g : Agent) (rest : List Event) : (State.turn g rest s).data = s.data := rfl
@[simp] theorem State.turn_rk (g : Agent) (rest : List Event) : (State.turn g rest s).rk = s.rk := rfl
@[simp] theorem State.turn_pend (g : Agent) (rest : List Event) : (State.turn g rest s).pend = s.pend := rfl
@[simp] theorem State.turn_agent (g : Agent) (rest : List Event) : (State.turn g rest s).agent = g := rfl
@[simp] theorem State.turn_script (g : Agent) (rest : List Event) : (State.turn g rest s).script = rest := rfl
@[simp] theorem State.turn_resp (g : Agent) (rest : List Event) : (State.turn g rest s).resp = s.resp := rfl
@[simp] theorem State.turn_draws (g : Agent) (rest : List Event) : (State.turn g rest s).draws = s.draws := rfl

@[simp] theorem State.resetNow_ksz : s.resetNow.ksz = 0 := rfl
@[simp] theorem State.resetNow_ieDone : s.resetNow.ieDone = false := rfl
@[simp] theorem State.resetNow_ieErr : s.resetNow.ieErr = false := rfl
@[simp] theorem State.resetNow_busy : s.resetNow.busy = false := rfl
@[simp] theorem State.resetNow_done : s.resetNow.done = false := rfl
@[simp] theorem State.resetNow_errv : s.resetNow.errv = false := rfl
@[simp] theorem State.resetNow_keyvalid : s.resetNow.keyvalid = false := rfl
@[simp] theorem State.resetNow_errcode : s.resetNow.errcode = .noError := rfl
@[simp] theorem State.resetNow_knr : s.resetNow.knr = 0 := rfl
@[simp] theorem State.resetNow_idx : s.resetNow.idx = 0 := rfl
@[simp] theorem State.resetNow_key : s.resetNow.key = Vector.replicate 8 0 := rfl
@[simp] theorem State.resetNow_data : s.resetNow.data = Vector.replicate 4 0 := rfl
@[simp] theorem State.resetNow_rk : s.resetNow.rk = Vector.ofFn fun j => Config.freeWord (s.draws + j) := rfl
@[simp] theorem State.resetNow_pend : s.resetNow.pend = none := rfl
@[simp] theorem State.resetNow_agent : s.resetNow.agent = .host := rfl
@[simp] theorem State.resetNow_script : s.resetNow.script = s.script := rfl
@[simp] theorem State.resetNow_resp : s.resetNow.resp = none := rfl
@[simp] theorem State.resetNow_draws : s.resetNow.draws = s.draws + 60 := rfl

end Sys2Proof.Machine
end

