-- ==== Sys2Proof/Laws/Ops.lean ====
section
/-!
SUPPORT. What each shared operation of Machine/Ops.lean can do, said once: raising an error, acknowledging, accepting, issuing and
completing a command. Later proofs cite these instead of unfolding the operation.
-/

namespace Sys2Proof.Machine

variable (s : State)

/-- Raising an error over a clear record sets it. -/
theorem State.raise_of_clear (e : ErrorCode) (h : s.errv = false) : s.raise e = s.recordError e := by
  simp [State.raise, h]

/-- Raising an error over a set record changes nothing. -/
theorem State.raise_of_set (e : ErrorCode) (h : s.errv = true) : s.raise e = s := by
  simp [State.raise, h]

/-- The two things raising an error can do. -/
theorem State.raise_cases (e : ErrorCode) :
    (s.errv = true ∧ s.raise e = s) ∨ (s.errv = false ∧ s.raise e = s.recordError e) := by
  cases h : s.errv
  · exact .inr ⟨rfl, s.raise_of_clear e h⟩
  · exact .inl ⟨rfl, s.raise_of_set e h⟩

/-! Raising an error changes the error record only. -/

@[simp] theorem State.raise_ksz (e : ErrorCode) : (State.raise e s).ksz = s.ksz := by
  rcases s.raise_cases e with ⟨_, h⟩ | ⟨_, h⟩ <;> simp [h]

@[simp] theorem State.raise_ieDone (e : ErrorCode) : (State.raise e s).ieDone = s.ieDone := by
  rcases s.raise_cases e with ⟨_, h⟩ | ⟨_, h⟩ <;> simp [h]

@[simp] theorem State.raise_ieErr (e : ErrorCode) : (State.raise e s).ieErr = s.ieErr := by
  rcases s.raise_cases e with ⟨_, h⟩ | ⟨_, h⟩ <;> simp [h]

@[simp] theorem State.raise_busy (e : ErrorCode) : (State.raise e s).busy = s.busy := by
  rcases s.raise_cases e with ⟨_, h⟩ | ⟨_, h⟩ <;> simp [h]

@[simp] theorem State.raise_done (e : ErrorCode) : (State.raise e s).done = s.done := by
  rcases s.raise_cases e with ⟨_, h⟩ | ⟨_, h⟩ <;> simp [h]

@[simp] theorem State.raise_keyvalid (e : ErrorCode) : (State.raise e s).keyvalid = s.keyvalid := by
  rcases s.raise_cases e with ⟨_, h⟩ | ⟨_, h⟩ <;> simp [h]

@[simp] theorem State.raise_knr (e : ErrorCode) : (State.raise e s).knr = s.knr := by
  rcases s.raise_cases e with ⟨_, h⟩ | ⟨_, h⟩ <;> simp [h]

@[simp] theorem State.raise_idx (e : ErrorCode) : (State.raise e s).idx = s.idx := by
  rcases s.raise_cases e with ⟨_, h⟩ | ⟨_, h⟩ <;> simp [h]

@[simp] theorem State.raise_key (e : ErrorCode) : (State.raise e s).key = s.key := by
  rcases s.raise_cases e with ⟨_, h⟩ | ⟨_, h⟩ <;> simp [h]

@[simp] theorem State.raise_data (e : ErrorCode) : (State.raise e s).data = s.data := by
  rcases s.raise_cases e with ⟨_, h⟩ | ⟨_, h⟩ <;> simp [h]

@[simp] theorem State.raise_rk (e : ErrorCode) : (State.raise e s).rk = s.rk := by
  rcases s.raise_cases e with ⟨_, h⟩ | ⟨_, h⟩ <;> simp [h]

@[simp] theorem State.raise_pend (e : ErrorCode) : (State.raise e s).pend = s.pend := by
  rcases s.raise_cases e with ⟨_, h⟩ | ⟨_, h⟩ <;> simp [h]

@[simp] theorem State.raise_agent (e : ErrorCode) : (State.raise e s).agent = s.agent := by
  rcases s.raise_cases e with ⟨_, h⟩ | ⟨_, h⟩ <;> simp [h]

@[simp] theorem State.raise_script (e : ErrorCode) : (State.raise e s).script = s.script := by
  rcases s.raise_cases e with ⟨_, h⟩ | ⟨_, h⟩ <;> simp [h]

@[simp] theorem State.raise_resp (e : ErrorCode) : (State.raise e s).resp = s.resp := by
  rcases s.raise_cases e with ⟨_, h⟩ | ⟨_, h⟩ <;> simp [h]

@[simp] theorem State.raise_draws (e : ErrorCode) : (State.raise e s).draws = s.draws := by
  rcases s.raise_cases e with ⟨_, h⟩ | ⟨_, h⟩ <;> simp [h]

@[simp] theorem State.raise_errv (e : ErrorCode) : (State.raise e s).errv = true := by
  rcases s.raise_cases e with ⟨h', h⟩ | ⟨_, h⟩ <;> simp [*]

/-- An acknowledgement changes DONE and the error record only, each only when its bit of the word is 1. -/
theorem State.acknowledge_eq (v : Word) :
    s.acknowledge v = { s with
      done := s.done && !v.getLsbD 1
      errv := s.errv && !v.getLsbD 2
      errcode := if v.getLsbD 2 then .noError else s.errcode } := by
  unfold State.acknowledge
  cases v.getLsbD 1 <;> cases v.getLsbD 2 <;> simp [State.clearDone, State.clearError]

/-- Acceptance as one record: PEND, BUSY and DONE, and the key record where the command drops it. -/
theorem State.accept_eq (p : Pending) :
    s.accept p = { s with
      pend := some p, busy := true, done := false
      keyvalid := s.keyvalid && !p.dropsKey
      knr := if p.dropsKey then 0 else s.knr } := by
  unfold State.accept
  cases p.dropsKey <;> simp [State.startCommand, State.dropKey]

/-- The three things issuing a command can do: BUSY, its own precondition's error, or acceptance. -/
theorem State.issue_cases (pre : Option ErrorCode) (p : Pending) :
    (s.busy = true ∧ s.issue pre p = s.raise .busy) ∨
    (∃ e, s.busy = false ∧ pre = some e ∧ s.issue pre p = s.raise e) ∨
    (s.busy = false ∧ pre = none ∧ s.issue pre p = s.accept p) := by
  cases h : s.busy <;> cases pre <;> simp [State.issue, h]

/-- Issuing a command from a busy state raises BUSY. -/
theorem State.issue_of_busy (pre : Option ErrorCode) (p : Pending) (h : s.busy = true) :
    s.issue pre p = s.raise .busy := by
  simp [State.issue, h]

/-- Issuing a command whose precondition fails raises that error. -/
theorem State.issue_of_error (e : ErrorCode) (p : Pending) (h : s.busy = false) :
    s.issue (some e) p = s.raise e := by
  simp [State.issue, h]

/-- Issuing a command that passes every check accepts it. -/
theorem State.issue_of_accepted (p : Pending) (h : s.busy = false) : s.issue none p = s.accept p := by
  simp [State.issue, h]

/-! Issuing a command changes no operand register and nothing of the host side. -/

@[simp] theorem State.accept_ksz (p : Pending) : (State.accept p s).ksz = s.ksz := by rw [State.accept_eq]

@[simp] theorem State.issue_ksz (pre : Option ErrorCode) (p : Pending) : (State.issue pre p s).ksz = s.ksz := by
  rcases s.issue_cases pre p with ⟨_, h⟩ | ⟨_, _, _, h⟩ | ⟨_, _, h⟩ <;> simp [h]

@[simp] theorem State.accept_ieDone (p : Pending) : (State.accept p s).ieDone = s.ieDone := by rw [State.accept_eq]

@[simp] theorem State.issue_ieDone (pre : Option ErrorCode) (p : Pending) : (State.issue pre p s).ieDone = s.ieDone := by
  rcases s.issue_cases pre p with ⟨_, h⟩ | ⟨_, _, _, h⟩ | ⟨_, _, h⟩ <;> simp [h]

@[simp] theorem State.accept_ieErr (p : Pending) : (State.accept p s).ieErr = s.ieErr := by rw [State.accept_eq]

@[simp] theorem State.issue_ieErr (pre : Option ErrorCode) (p : Pending) : (State.issue pre p s).ieErr = s.ieErr := by
  rcases s.issue_cases pre p with ⟨_, h⟩ | ⟨_, _, _, h⟩ | ⟨_, _, h⟩ <;> simp [h]

@[simp] theorem State.accept_idx (p : Pending) : (State.accept p s).idx = s.idx := by rw [State.accept_eq]

@[simp] theorem State.issue_idx (pre : Option ErrorCode) (p : Pending) : (State.issue pre p s).idx = s.idx := by
  rcases s.issue_cases pre p with ⟨_, h⟩ | ⟨_, _, _, h⟩ | ⟨_, _, h⟩ <;> simp [h]

@[simp] theorem State.accept_key (p : Pending) : (State.accept p s).key = s.key := by rw [State.accept_eq]

@[simp] theorem State.issue_key (pre : Option ErrorCode) (p : Pending) : (State.issue pre p s).key = s.key := by
  rcases s.issue_cases pre p with ⟨_, h⟩ | ⟨_, _, _, h⟩ | ⟨_, _, h⟩ <;> simp [h]

@[simp] theorem State.accept_data (p : Pending) : (State.accept p s).data = s.data := by rw [State.accept_eq]

@[simp] theorem State.issue_data (pre : Option ErrorCode) (p : Pending) : (State.issue pre p s).data = s.data := by
  rcases s.issue_cases pre p with ⟨_, h⟩ | ⟨_, _, _, h⟩ | ⟨_, _, h⟩ <;> simp [h]

@[simp] theorem State.accept_rk (p : Pending) : (State.accept p s).rk = s.rk := by rw [State.accept_eq]

@[simp] theorem State.issue_rk (pre : Option ErrorCode) (p : Pending) : (State.issue pre p s).rk = s.rk := by
  rcases s.issue_cases pre p with ⟨_, h⟩ | ⟨_, _, _, h⟩ | ⟨_, _, h⟩ <;> simp [h]

@[simp] theorem State.accept_agent (p : Pending) : (State.accept p s).agent = s.agent := by rw [State.accept_eq]

@[simp] theorem State.issue_agent (pre : Option ErrorCode) (p : Pending) : (State.issue pre p s).agent = s.agent := by
  rcases s.issue_cases pre p with ⟨_, h⟩ | ⟨_, _, _, h⟩ | ⟨_, _, h⟩ <;> simp [h]

@[simp] theorem State.accept_script (p : Pending) : (State.accept p s).script = s.script := by rw [State.accept_eq]

@[simp] theorem State.issue_script (pre : Option ErrorCode) (p : Pending) : (State.issue pre p s).script = s.script := by
  rcases s.issue_cases pre p with ⟨_, h⟩ | ⟨_, _, _, h⟩ | ⟨_, _, h⟩ <;> simp [h]

@[simp] theorem State.accept_resp (p : Pending) : (State.accept p s).resp = s.resp := by rw [State.accept_eq]

@[simp] theorem State.issue_resp (pre : Option ErrorCode) (p : Pending) : (State.issue pre p s).resp = s.resp := by
  rcases s.issue_cases pre p with ⟨_, h⟩ | ⟨_, _, _, h⟩ | ⟨_, _, h⟩ <;> simp [h]

@[simp] theorem State.accept_draws (p : Pending) : (State.accept p s).draws = s.draws := by rw [State.accept_eq]

@[simp] theorem State.issue_draws (pre : Option ErrorCode) (p : Pending) : (State.issue pre p s).draws = s.draws := by
  rcases s.issue_cases pre p with ⟨_, h⟩ | ⟨_, _, _, h⟩ | ⟨_, _, h⟩ <;> simp [h]

end Sys2Proof.Machine
end

