-- ==== Sys2Proof/Laws/Bus.lean ====
section
/-!
SUPPORT. What a register read and a register write can do, said once, and what they leave unchanged.
-/

namespace Sys2Proof.Machine

variable (s : State)

/-- A guarded write from a busy state raises BUSY (rule R48). -/
theorem State.whenIdle_of_busy (f : State → State) (h : s.busy = true) : s.whenIdle f = s.raise .busy := by
  simp [State.whenIdle, h]

/-- A guarded write from an idle state writes. -/
theorem State.whenIdle_of_idle (f : State → State) (h : s.busy = false) : s.whenIdle f = f s := by
  simp [State.whenIdle, h]

/-- The two things a guarded write can do. -/
theorem State.whenIdle_cases (f : State → State) :
    (s.busy = true ∧ s.whenIdle f = s.raise .busy) ∨ (s.busy = false ∧ s.whenIdle f = f s) := by
  cases h : s.busy
  · exact .inr ⟨rfl, s.whenIdle_of_idle f h⟩
  · exact .inl ⟨rfl, s.whenIdle_of_busy f h⟩

/-- What both things a guarded write can do keep, it keeps. -/
theorem State.whenIdle_keeps (f : State → State) (P : State → Prop) (hr : P (s.raise .busy)) (hf : P (f s)) : P (s.whenIdle f) := by
  rcases s.whenIdle_cases f with ⟨_, h⟩ | ⟨_, h⟩ <;> rw [h] <;> assumption

/-- The two things a register read can do: answer the register's word, or a fresh unspecified one. -/
theorem State.readReg_cases (r : Reg) :
    (s.unspecifiedRead r = false ∧ s.readReg r = s.respond (.okay (some (s.regWord r)))) ∨
    (s.unspecifiedRead r = true ∧ s.readReg r = (s.respond (.okay (some s.freeWord))).draw 1) := by
  cases h : s.unspecifiedRead r <;> simp [State.readReg, h]

/-- The write of CTRL as one record: the three fields, and the key record where KSZ changes. -/
theorem State.writeCtrl_eq (v : Word) :
    s.writeCtrl v = { s with
      ksz := v.extractLsb' 0 2, ieDone := v.getLsbD 4, ieErr := v.getLsbD 5
      keyvalid := if v.extractLsb' 0 2 ≠ s.ksz then false else s.keyvalid
      knr := if v.extractLsb' 0 2 ≠ s.ksz then 0 else s.knr } := by
  by_cases h : v.extractLsb' 0 2 = s.ksz <;> simp [State.writeCtrl, h, State.setCtrl, State.dropKey]

/-! A register read changes nothing but the response and the draws. -/

@[simp] theorem State.readReg_ksz (r : Reg) : (State.readReg r s).ksz = s.ksz := by
  rcases s.readReg_cases r with ⟨_, h⟩ | ⟨_, h⟩ <;> simp [h]

@[simp] theorem State.readReg_ieDone (r : Reg) : (State.readReg r s).ieDone = s.ieDone := by
  rcases s.readReg_cases r with ⟨_, h⟩ | ⟨_, h⟩ <;> simp [h]

@[simp] theorem State.readReg_ieErr (r : Reg) : (State.readReg r s).ieErr = s.ieErr := by
  rcases s.readReg_cases r with ⟨_, h⟩ | ⟨_, h⟩ <;> simp [h]

@[simp] theorem State.readReg_busy (r : Reg) : (State.readReg r s).busy = s.busy := by
  rcases s.readReg_cases r with ⟨_, h⟩ | ⟨_, h⟩ <;> simp [h]

@[simp] theorem State.readReg_done (r : Reg) : (State.readReg r s).done = s.done := by
  rcases s.readReg_cases r with ⟨_, h⟩ | ⟨_, h⟩ <;> simp [h]

@[simp] theorem State.readReg_errv (r : Reg) : (State.readReg r s).errv = s.errv := by
  rcases s.readReg_cases r with ⟨_, h⟩ | ⟨_, h⟩ <;> simp [h]

@[simp] theorem State.readReg_keyvalid (r : Reg) : (State.readReg r s).keyvalid = s.keyvalid := by
  rcases s.readReg_cases r with ⟨_, h⟩ | ⟨_, h⟩ <;> simp [h]

@[simp] theorem State.readReg_errcode (r : Reg) : (State.readReg r s).errcode = s.errcode := by
  rcases s.readReg_cases r with ⟨_, h⟩ | ⟨_, h⟩ <;> simp [h]

@[simp] theorem State.readReg_knr (r : Reg) : (State.readReg r s).knr = s.knr := by
  rcases s.readReg_cases r with ⟨_, h⟩ | ⟨_, h⟩ <;> simp [h]

@[simp] theorem State.readReg_idx (r : Reg) : (State.readReg r s).idx = s.idx := by
  rcases s.readReg_cases r with ⟨_, h⟩ | ⟨_, h⟩ <;> simp [h]

@[simp] theorem State.readReg_key (r : Reg) : (State.readReg r s).key = s.key := by
  rcases s.readReg_cases r with ⟨_, h⟩ | ⟨_, h⟩ <;> simp [h]

@[simp] theorem State.readReg_data (r : Reg) : (State.readReg r s).data = s.data := by
  rcases s.readReg_cases r with ⟨_, h⟩ | ⟨_, h⟩ <;> simp [h]

@[simp] theorem State.readReg_rk (r : Reg) : (State.readReg r s).rk = s.rk := by
  rcases s.readReg_cases r with ⟨_, h⟩ | ⟨_, h⟩ <;> simp [h]

@[simp] theorem State.readReg_pend (r : Reg) : (State.readReg r s).pend = s.pend := by
  rcases s.readReg_cases r with ⟨_, h⟩ | ⟨_, h⟩ <;> simp [h]

@[simp] theorem State.readReg_agent (r : Reg) : (State.readReg r s).agent = s.agent := by
  rcases s.readReg_cases r with ⟨_, h⟩ | ⟨_, h⟩ <;> simp [h]

@[simp] theorem State.readReg_script (r : Reg) : (State.readReg r s).script = s.script := by
  rcases s.readReg_cases r with ⟨_, h⟩ | ⟨_, h⟩ <;> simp [h]

/-! A register write changes no BUSY, no PEND, no RK and nothing of the host side. -/

@[simp] theorem State.writeReg_busy (v : Word) (r : Reg) : (State.writeReg v s r).busy = s.busy := by
  cases r with
  | id | rkdata | cmd => rfl
  | status => simp [State.writeReg, State.acknowledge_eq]
  | ctrl => exact s.whenIdle_keeps _ (fun t => t.busy = s.busy) (by simp) (by simp [State.writeCtrl_eq])
  | rkaddr => exact s.whenIdle_keeps _ (fun t => t.busy = s.busy) (by simp) rfl
  | key k => exact s.whenIdle_keeps _ (fun t => t.busy = s.busy) (by simp) rfl
  | data k => exact s.whenIdle_keeps _ (fun t => t.busy = s.busy) (by simp) rfl

@[simp] theorem State.writeReg_rk (v : Word) (r : Reg) : (State.writeReg v s r).rk = s.rk := by
  cases r with
  | id | rkdata | cmd => rfl
  | status => simp [State.writeReg, State.acknowledge_eq]
  | ctrl => exact s.whenIdle_keeps _ (fun t => t.rk = s.rk) (by simp) (by simp [State.writeCtrl_eq])
  | rkaddr => exact s.whenIdle_keeps _ (fun t => t.rk = s.rk) (by simp) rfl
  | key k => exact s.whenIdle_keeps _ (fun t => t.rk = s.rk) (by simp) rfl
  | data k => exact s.whenIdle_keeps _ (fun t => t.rk = s.rk) (by simp) rfl

@[simp] theorem State.writeReg_pend (v : Word) (r : Reg) : (State.writeReg v s r).pend = s.pend := by
  cases r with
  | id | rkdata | cmd => rfl
  | status => simp [State.writeReg, State.acknowledge_eq]
  | ctrl => exact s.whenIdle_keeps _ (fun t => t.pend = s.pend) (by simp) (by simp [State.writeCtrl_eq])
  | rkaddr => exact s.whenIdle_keeps _ (fun t => t.pend = s.pend) (by simp) rfl
  | key k => exact s.whenIdle_keeps _ (fun t => t.pend = s.pend) (by simp) rfl
  | data k => exact s.whenIdle_keeps _ (fun t => t.pend = s.pend) (by simp) rfl

@[simp] theorem State.writeReg_agent (v : Word) (r : Reg) : (State.writeReg v s r).agent = s.agent := by
  cases r with
  | id | rkdata | cmd => rfl
  | status => simp [State.writeReg, State.acknowledge_eq]
  | ctrl => exact s.whenIdle_keeps _ (fun t => t.agent = s.agent) (by simp) (by simp [State.writeCtrl_eq])
  | rkaddr => exact s.whenIdle_keeps _ (fun t => t.agent = s.agent) (by simp) rfl
  | key k => exact s.whenIdle_keeps _ (fun t => t.agent = s.agent) (by simp) rfl
  | data k => exact s.whenIdle_keeps _ (fun t => t.agent = s.agent) (by simp) rfl

@[simp] theorem State.writeReg_script (v : Word) (r : Reg) : (State.writeReg v s r).script = s.script := by
  cases r with
  | id | rkdata | cmd => rfl
  | status => simp [State.writeReg, State.acknowledge_eq]
  | ctrl => exact s.whenIdle_keeps _ (fun t => t.script = s.script) (by simp) (by simp [State.writeCtrl_eq])
  | rkaddr => exact s.whenIdle_keeps _ (fun t => t.script = s.script) (by simp) rfl
  | key k => exact s.whenIdle_keeps _ (fun t => t.script = s.script) (by simp) rfl
  | data k => exact s.whenIdle_keeps _ (fun t => t.script = s.script) (by simp) rfl

@[simp] theorem State.writeReg_resp (v : Word) (r : Reg) : (State.writeReg v s r).resp = s.resp := by
  cases r with
  | id | rkdata | cmd => rfl
  | status => simp [State.writeReg, State.acknowledge_eq]
  | ctrl => exact s.whenIdle_keeps _ (fun t => t.resp = s.resp) (by simp) (by simp [State.writeCtrl_eq])
  | rkaddr => exact s.whenIdle_keeps _ (fun t => t.resp = s.resp) (by simp) rfl
  | key k => exact s.whenIdle_keeps _ (fun t => t.resp = s.resp) (by simp) rfl
  | data k => exact s.whenIdle_keeps _ (fun t => t.resp = s.resp) (by simp) rfl

@[simp] theorem State.writeReg_draws (v : Word) (r : Reg) : (State.writeReg v s r).draws = s.draws := by
  cases r with
  | id | rkdata | cmd => rfl
  | status => simp [State.writeReg, State.acknowledge_eq]
  | ctrl => exact s.whenIdle_keeps _ (fun t => t.draws = s.draws) (by simp) (by simp [State.writeCtrl_eq])
  | rkaddr => exact s.whenIdle_keeps _ (fun t => t.draws = s.draws) (by simp) rfl
  | key k => exact s.whenIdle_keeps _ (fun t => t.draws = s.draws) (by simp) rfl
  | data k => exact s.whenIdle_keeps _ (fun t => t.draws = s.draws) (by simp) rfl

end Sys2Proof.Machine
end

