-- ==== Sys2Proof/Laws/Bytes.lean ====
section
/-!
SUPPORT. Bytes and words: packing and unpacking undo each other, and exclusive OR acts byte for byte.
-/

namespace Sys2Proof.Machine

/-- Bit `i` of a packed word: it stands in the byte whose eight bits it falls in. -/
theorem getLsbD_word (c : Column) (i : Nat) :
    (word c).getLsbD i =
      if i < 8 then c.a3.getLsbD i
      else if i < 16 then c.a2.getLsbD (i - 8)
      else if i < 24 then c.a1.getLsbD (i - 16)
      else c.a0.getLsbD (i - 24) := by
  have h : (word c).getLsbD i = (c.a0 ++ c.a1 ++ c.a2 ++ c.a3 : BitVec (8 + 8 + 8 + 8)).getLsbD i := rfl
  rw [h, BitVec.getLsbD_append, BitVec.getLsbD_append, BitVec.getLsbD_append]
  split_ifs <;> first | (exfalso; omega) | rfl

/-- The bytes of a packed word. -/
@[simp] theorem bytes_word (c : Column) : bytes (word c) = c := by
  obtain ⟨a0, a1, a2, a3⟩ := c
  simp only [bytes, Column.mk.injEq]
  refine ⟨?_, ?_, ?_, ?_⟩ <;> apply BitVec.eq_of_getLsbD_eq <;> intro i hi <;>
    simp only [BitVec.getLsbD_extractLsb', getLsbD_word, hi, decide_true, Bool.true_and] <;>
    split_ifs <;> first | (exfalso; omega) | (congr 1; omega)

/-- The word of unpacked bytes. -/
@[simp] theorem word_bytes (w : Word) : word (bytes w) = w := by
  apply BitVec.eq_of_getLsbD_eq
  intro i hi
  simp only [getLsbD_word, bytes, BitVec.getLsbD_extractLsb']
  split_ifs <;> (rw [decide_eq_true (by omega), Bool.true_and]; congr 1; omega)

/-- Exclusive OR of two words is exclusive OR of their bytes. -/
theorem bytes_xor (v w : Word) : bytes (v ^^^ w) = (bytes v).xor (bytes w) := by
  simp only [bytes, Column.xor, Column.mk.injEq]
  refine ⟨?_, ?_, ?_, ?_⟩ <;> apply BitVec.eq_of_getLsbD_eq <;> intro i hi <;> simp [hi]

/-- Exclusive OR with the same column twice. -/
@[simp] theorem Column.xor_xor_cancel (c d : Column) : (c.xor d).xor d = c := by
  simp [Column.xor]

end Sys2Proof.Machine
end

