-- ==== Sys2Proof/Laws/Exec.lean ====
section
/-!
SUPPORT. The twelve meanings seen as one: what a command requires, what it captures and what its completion writes. `exec_host` and
`exec_engine` say the two halves of every command once; `exec_isNext` follows.
-/

namespace Sys2Proof.Machine

/-- What a command requires beyond an idle engine (rule R205). -/
def precondition (s : State) : Instr → Option ErrorCode
  | .expand => s.needsKeySize
  | .encrypt | .decrypt => s.needsKey
  | .addRoundKey i => s.needsRoundKey i
  | .nop | .clear | .subBytes | .invSubBytes | .shiftRows | .invShiftRows | .mixColumns | .invMixColumns => none

/-- What the acceptance of a command captures (rule R175). -/
def capture (s : State) : Instr → Pending
  | .nop => .nop
  | .expand => .expand s.keyOperand (nkOf s.ksz) (nrOf s.ksz)
  | .encrypt => .encrypt s.block s.rounds
  | .decrypt => .decrypt s.block s.rounds
  | .clear => .clear
  | .subBytes => .subBytes s.block
  | .invSubBytes => .invSubBytes s.block
  | .shiftRows => .shiftRows s.block
  | .invShiftRows => .invShiftRows s.block
  | .mixColumns => .mixColumns s.block
  | .invMixColumns => .invMixColumns s.block
  | .addRoundKey i => .addRoundKey s.block i

/-- What the completion of an in-flight record writes before the handshake (rule R176). -/
def writeResult (s : State) : Pending → State
  | .nop => s
  | .expand k nk nr => s.loadKeys (keyExpansion k nk nr) nr
  | .encrypt blk nr => s.setBlock (cipher s.rk nr blk)
  | .decrypt blk nr => s.setBlock (invCipher s.rk nr blk)
  | .clear => s.wipe
  | .subBytes blk => s.setBlock (subBytes blk)
  | .invSubBytes blk => s.setBlock (invSubBytes blk)
  | .shiftRows blk => s.setBlock (shiftRows blk)
  | .invShiftRows blk => s.setBlock (invShiftRows blk)
  | .mixColumns blk => s.setBlock (mixColumns blk)
  | .invMixColumns blk => s.setBlock (invMixColumns blk)
  | .addRoundKey blk i => s.setBlock (addRoundKey s.rk i.toNat blk)

/-- The host half of every command: it issues what it requires and captures. -/
theorem exec_host (i : Instr) (s : State) (h : s.agent = .host) :
    exec i s = .next (s.issue (precondition s i) (capture s i)) := by
  cases i <;>
    simp [exec, execNop, execExpand, execEncrypt, execDecrypt, execClear, execSubBytes, execInvSubBytes, execShiftRows,
      execInvShiftRows, execMixColumns, execInvMixColumns, execAddRoundKey, precondition, capture, h]

/-- The engine half of the command in flight: it writes the result and ends the handshake. -/
theorem exec_engine (p : Pending) (s : State) (h : s.agent = .engine) (hp : s.pend = some p) :
    exec p.instr s = .next (writeResult s p).complete := by
  cases p <;>
    simp [exec, Pending.instr, execNop, execExpand, execEncrypt, execDecrypt, execClear, execSubBytes, execInvSubBytes,
      execShiftRows, execInvShiftRows, execMixColumns, execInvMixColumns, execAddRoundKey, writeResult, h, hp]

/-- The engine half of a command that is not in flight does nothing. -/
theorem exec_engine_other (i : Instr) (s : State) (h : s.agent = .engine) (hp : ∀ p, s.pend = some p → p.instr ≠ i) :
    exec i s = .next s := by
  cases hs : s.pend with
  | none =>
    cases i <;>
      simp [exec, execNop, execExpand, execEncrypt, execDecrypt, execClear, execSubBytes, execInvSubBytes, execShiftRows,
        execInvShiftRows, execMixColumns, execInvMixColumns, execAddRoundKey, h, hs]
  | some p =>
    have hne := hp p hs
    cases i <;> cases p <;>
      simp_all [exec, Pending.instr, execNop, execExpand, execEncrypt, execDecrypt, execClear, execSubBytes, execInvSubBytes,
        execShiftRows, execInvShiftRows, execMixColumns, execInvMixColumns, execAddRoundKey]

/-- The three things a meaning can do. -/
theorem exec_cases (i : Instr) (s : State) :
    (s.agent = .host ∧ exec i s = .next (s.issue (precondition s i) (capture s i))) ∨
    (∃ p, s.agent = .engine ∧ s.pend = some p ∧ p.instr = i ∧ exec i s = .next (writeResult s p).complete) ∨
    (s.agent = .engine ∧ exec i s = .next s) := by
  cases h : s.agent with
  | host => exact .inl ⟨rfl, exec_host i s h⟩
  | engine =>
    by_cases hp : ∃ p, s.pend = some p ∧ p.instr = i
    · obtain ⟨p, hs, rfl⟩ := hp
      exact .inr (.inl ⟨p, rfl, hs, rfl, exec_engine p s h hs⟩)
    · exact .inr (.inr ⟨rfl, exec_engine_other i s h fun p hs hi => hp ⟨p, hs, hi⟩⟩)

/-- A captured record names its command. -/
@[simp] theorem capture_instr (s : State) (i : Instr) : (capture s i).instr = i := by
  cases i <;> rfl

/-- Only EXPAND and CLEAR drop the key. -/
theorem capture_dropsKey (s : State) (i : Instr) : (capture s i).dropsKey = (decide (i = .expand) || decide (i = .clear)) := by
  cases i <;> rfl

end Sys2Proof.Machine
end

