-- ==== Sys2Proof/Laws/Fetch.lean ====
section
/-!
SUPPORT. What the next move is, by the next event, and what one step can do (`step_cases`).
-/

namespace Sys2Proof.Machine

/-- An offset of the register map reaches its register. -/
@[simp] theorem regAt_offset (r : Reg) : regAt r.offset = some r := by
  cases r with
  | key k => revert k; decide
  | data k => revert k; decide
  | _ => rfl

/-- A register is reached at its own offset only. -/
theorem regAt_eq_some {off : BitVec 8} {r : Reg} : regAt off = some r ↔ off = r.offset := by
  refine ⟨fun h => ?_, fun h => h ▸ regAt_offset r⟩
  have inv : ∀ off : BitVec 8, ∀ r ∈ regAt off, off = r.offset := by decide +kernel
  exact inv off r h

/-- A 32-bit access at a register's offset reaches it. -/
@[simp] theorem target_offset (r : Reg) : target 32 r.offset = some r := by
  simp [target]

/-- Completion is enabled exactly when a command is in flight. -/
theorem State.engineMove_cases (s : State) :
    (∃ p, s.pend = some p ∧ s.engineMove = .run p.instr s) ∨ (s.pend = none ∧ s.engineMove = .done s) := by
  cases h : s.pend <;> simp [State.engineMove, h]

/-- A CMD write either issues the command of its word or is rejected. -/
theorem State.cmdMove_cases (s : State) (v : Word) :
    (∃ i, decode v = .ok i ∧ s.cmdMove v = .run i s) ∨
    (∃ e, decode v = .error e ∧ s.cmdMove v = .done (s.raise (if s.busy then .busy else .illegal))) := by
  cases h : decode v <;> simp [State.cmdMove, h]

/-- A 32-bit access that reaches a register. -/
theorem target_eq_some {bits : Nat} {off : BitVec 8} {r : Reg} :
    target bits off = some r ↔ bits = 32 ∧ regAt off = some r := by
  unfold target
  split <;> simp [*]

/-- What one host access can do: the five ways a move starts from it. -/
theorem State.accessMove_cases (s : State) (a : Access) :
    (∃ d, s.accessMove a = .done (s.respond (.busError d))) ∨
    (∃ off r, a = .read 32 off ∧ regAt off = some r ∧ s.accessMove a = .done (s.readReg r)) ∨
    (∃ off v r, a = .write 32 off v ∧ regAt off = some r ∧ r ≠ .cmd ∧
      s.accessMove a = .done ((s.respond (.okay none)).writeReg v r)) ∨
    (∃ off v, a = .write 32 off v ∧ regAt off = some .cmd ∧
      s.accessMove a = (s.respond (.okay none)).cmdMove v) := by
  cases a with
  | read bits off =>
    cases h : target bits off with
    | none => exact .inl ⟨some 0, by simp [State.accessMove, h]⟩
    | some r =>
      obtain ⟨rfl, hr⟩ := target_eq_some.mp h
      exact .inr (.inl ⟨off, r, rfl, hr, by simp [State.accessMove, h]⟩)
  | write bits off v =>
    cases h : target bits off with
    | none => exact .inl ⟨none, by simp [State.accessMove, h]⟩
    | some r =>
      obtain ⟨rfl, hr⟩ := target_eq_some.mp h
      by_cases hc : r = .cmd
      · subst hc
        exact .inr (.inr (.inr ⟨off, v, rfl, hr, by simp [State.accessMove, h]⟩))
      · refine .inr (.inr (.inl ⟨off, v, r, rfl, hr, hc, ?_⟩))
        cases r <;> simp_all [State.accessMove]

/-- The step of a register read. -/
theorem step_read (s : State) (rest : List Event) (r : Reg) (h : s.script = .access (.read 32 r.offset) :: rest) :
    step s = .next ((s.turn .host rest).readReg r) := by
  simp [step, nextMove, h, State.accessMove]

/-- The step of a register write other than CMD. -/
theorem step_write (s : State) (rest : List Event) (r : Reg) (v : Word) (hr : r ≠ .cmd)
    (h : s.script = .access (.write 32 r.offset v) :: rest) :
    step s = .next (((s.turn .host rest).respond (.okay none)).writeReg v r) := by
  cases r <;> simp_all [step, nextMove, State.accessMove]

/-- The step of a CMD write of a command, the command still to run. -/
theorem step_command (s : State) (rest : List Event) (v : Word) (i : Instr) (hv : decode v = .ok i)
    (h : s.script = .access (.write 32 Reg.cmd.offset v) :: rest) :
    step s = exec i ((s.turn .host rest).respond (.okay none)) := by
  simp [step, nextMove, h, State.accessMove, State.cmdMove, hv]

/-- The step of a CMD write of a word that is no command. -/
theorem step_badWord (s : State) (rest : List Event) (v : Word) (e : Reject) (hv : decode v = .error e)
    (h : s.script = .access (.write 32 Reg.cmd.offset v) :: rest) :
    step s = .next (((s.turn .host rest).respond (.okay none)).raise (if s.busy then .busy else .illegal)) := by
  simp only [step, nextMove, h, State.accessMove, target_offset, State.cmdMove, hv]
  rfl

/-- The step of a completion: the result written and the handshake ended. -/
theorem step_completion (s : State) (rest : List Event) (p : Pending) (hp : s.pend = some p)
    (h : s.script = .engineComplete :: rest ∨ (s.script = [] ∧ rest = [])) :
    step s = .next (writeResult (s.turn .engine rest) p).complete := by
  rcases h with h | ⟨h, rfl⟩
  · simp [step, nextMove, h, hp, State.engineMove, exec_engine p (s.turn .engine rest) rfl hp]
  · simp [step, nextMove, h, hp, State.engineMove, exec_engine p (s.turn .engine []) rfl hp]

/-- What one step can do. Every case says the event, the state the event leaves before any register changes, and the result. -/
theorem step_cases (s : State) :
    -- the host is silent and nothing is in flight
    (s.script = [] ∧ s.pend = none ∧ step s = .next s) ∨
    -- the completion of the command in flight
    (∃ rest p, (s.script = .engineComplete :: rest ∨ (s.script = [] ∧ rest = [])) ∧ s.pend = some p ∧
      step s = .next (writeResult (s.turn .engine rest) p).complete) ∨
    -- an engine step that completes nothing
    (∃ rest, ((s.script = .engineComplete :: rest ∧ s.pend = none) ∨ s.script = .engineWork :: rest) ∧
      step s = .next (s.turn .engine rest)) ∨
    -- reset
    (∃ rest, s.script = .reset :: rest ∧ step s = .next (s.turn .host rest).resetNow) ∨
    -- a bus error
    (∃ rest a d, s.script = .access a :: rest ∧ step s = .next ((s.turn .host rest).respond (.busError d))) ∨
    -- a register read
    (∃ rest off r, s.script = .access (.read 32 off) :: rest ∧ regAt off = some r ∧
      step s = .next ((s.turn .host rest).readReg r)) ∨
    -- a register write other than CMD
    (∃ rest off v r, s.script = .access (.write 32 off v) :: rest ∧ regAt off = some r ∧ r ≠ .cmd ∧
      step s = .next (((s.turn .host rest).respond (.okay none)).writeReg v r)) ∨
    -- a CMD write of a word that is no command
    (∃ rest off v e, s.script = .access (.write 32 off v) :: rest ∧ regAt off = some .cmd ∧ decode v = .error e ∧
      step s = .next (((s.turn .host rest).respond (.okay none)).raise (if s.busy then .busy else .illegal))) ∨
    -- a CMD write of a command
    (∃ rest off v i, s.script = .access (.write 32 off v) :: rest ∧ regAt off = some .cmd ∧ decode v = .ok i ∧
      step s = .next (((s.turn .host rest).respond (.okay none)).issue (precondition s i) (capture s i))) := by
  have run : ∀ i t, nextMove s = .run i t → step s = exec i t := fun i t h => by simp [step, h]
  have done : ∀ t, nextMove s = .done t → step s = .next t := fun t h => by simp [step, h]
  rcases hs : s.script with _ | ⟨e, rest⟩
  · cases hp : s.pend with
    | none => exact .inl ⟨rfl, rfl, done _ (by simp [nextMove, hs, hp])⟩
    | some p =>
      refine .inr (.inl ⟨[], p, .inr ⟨rfl, rfl⟩, rfl, ?_⟩)
      rw [run _ _ (by simp [nextMove, hs, hp, State.engineMove] : nextMove s = .run p.instr (s.turn .engine []))]
      exact exec_engine p _ rfl hp
  · cases e with
    | engineComplete =>
      cases hp : s.pend with
      | none => exact .inr (.inr (.inl ⟨rest, .inl ⟨rfl, rfl⟩, done _ (by simp [nextMove, hs, hp, State.engineMove])⟩))
      | some p =>
        refine .inr (.inl ⟨rest, p, .inl rfl, rfl, ?_⟩)
        rw [run _ _ (by simp [nextMove, hs, hp, State.engineMove] : nextMove s = .run p.instr (s.turn .engine rest))]
        exact exec_engine p _ rfl hp
    | engineWork => exact .inr (.inr (.inl ⟨rest, .inr rfl, done _ (by simp [nextMove, hs])⟩))
    | reset => exact .inr (.inr (.inr (.inl ⟨rest, rfl, done _ (by simp [nextMove, hs])⟩)))
    | access a =>
      have hm : nextMove s = (s.turn .host rest).accessMove a := by simp [nextMove, hs]
      refine .inr (.inr (.inr (.inr ?_)))
      rcases (s.turn .host rest).accessMove_cases a with
        ⟨d, h⟩ | ⟨off, r, rfl, hr, h⟩ | ⟨off, v, r, rfl, hr, hc, h⟩ | ⟨off, v, rfl, hr, h⟩
      · exact .inl ⟨rest, a, d, rfl, done _ (hm.trans h)⟩
      · exact .inr (.inl ⟨rest, off, r, rfl, hr, done _ (hm.trans h)⟩)
      · exact .inr (.inr (.inl ⟨rest, off, v, r, rfl, hr, hc, done _ (hm.trans h)⟩))
      · refine .inr (.inr (.inr ?_))
        rcases ((s.turn .host rest).respond (.okay none)).cmdMove_cases v with ⟨i, hv, hi⟩ | ⟨e, hv, he⟩
        · refine .inr ⟨rest, off, v, i, rfl, hr, hv, ?_⟩
          rw [run _ _ (hm.trans (h.trans hi)), exec_host _ _ rfl]
          cases i <;> rfl
        · exact .inl ⟨rest, off, v, e, rfl, hr, hv, done _ (hm.trans (h.trans he))⟩

/-- A completion's result leaves the host side as it was. -/
@[simp] theorem writeResult_script (s : State) (p : Pending) : (writeResult s p).script = s.script := by
  cases p <;> rfl

/-- Every step takes one event off the schedule. -/
theorem step_script (s t : State) (h : step s = .next t) : t.script = s.script.tail := by
  rcases step_cases s with ⟨hs, _, h'⟩ | ⟨rest, p, hs, _, h'⟩ | ⟨rest, hs, h'⟩ | ⟨rest, hs, h'⟩ | ⟨rest, _, _, hs, h'⟩ |
    ⟨rest, _, _, hs, _, h'⟩ | ⟨rest, _, _, _, hs, _, _, h'⟩ | ⟨rest, _, _, _, hs, _, _, h'⟩ | ⟨rest, _, _, _, hs, _, _, h'⟩ <;>
    rw [h'] at h <;> cases h
  · simp [hs]
  · rcases hs with hs | ⟨hs, rfl⟩ <;> simp [hs]
  · rcases hs with ⟨hs, _⟩ | hs <;> simp [hs]
  all_goals simp [hs]

/-- No step of a run is taken at length 0. -/
theorem run_zero (s : State) : Host.Core.run core 0 s = .next s := rfl

/-- A run takes one step and goes on. -/
theorem run_succ (s t : State) (n : Nat) (h : step s = .next t) : Host.Core.run core (n + 1) s = Host.Core.run core n t := by
  simp only [Host.Core.run]
  have : core.step s = .next t := h
  rw [this]

end Sys2Proof.Machine
end

