-- ==== Sys2Proof/Laws/PerInstr.lean ====
section
/-!
SUPPORT. One lemma per command: the word of a command is well-formed (rule R84), and it carries the command's opcode and RKI in their
fields with RSV zero (rule R80).
-/

namespace Sys2Proof.Laws.EncodedFields

/-- The word of a command passes the three checks of rule R84 and holds its fields. -/
def Statement (i : Instr) : Prop :=
  wordWellFormed (encode i) = true ∧ opcField (encode i) = i.opcode ∧ rkiField (encode i) = i.rki ∧ rsvField (encode i) = 0

theorem nop : Statement .nop := by unfold Statement; decide
theorem expand : Statement .expand := by unfold Statement; decide
theorem encrypt : Statement .encrypt := by unfold Statement; decide
theorem decrypt : Statement .decrypt := by unfold Statement; decide
theorem clear : Statement .clear := by unfold Statement; decide
theorem subBytes : Statement .subBytes := by unfold Statement; decide
theorem invSubBytes : Statement .invSubBytes := by unfold Statement; decide
theorem shiftRows : Statement .shiftRows := by unfold Statement; decide
theorem invShiftRows : Statement .invShiftRows := by unfold Statement; decide
theorem mixColumns : Statement .mixColumns := by unfold Statement; decide
theorem invMixColumns : Statement .invMixColumns := by unfold Statement; decide
theorem addRoundKey (rki : BitVec 4) : Statement (.addRoundKey rki) := by revert rki; unfold Statement; decide

end Sys2Proof.Laws.EncodedFields
end

