-- ==== Sys2Proof/Tests/Slice0.lean ====
section
/-!
SUPPORT. Tests with the spec's own words and vectors (spec/95_test_vectors.md and the examples of the rules), each about one step or one
function, and for every statement with hypotheses a witness that meets them.
-/

namespace Sys2Proof.Tests

open Sys2Proof.Machine Sys2Proof.Claims

/-! ## Helpers -/

/-- The next state of a step, if it answers one. -/
def nextOf (o : Host.Outcome State Fault Refusal) : Option State :=
  match o with
  | .next s => some s
  | .fault _ | .refused _ => none

/-- STATUS after a step. -/
def statusAfter (o : Host.Outcome State Fault Refusal) : Option Word := (nextOf o).map State.statusWord

/-- DATA0..3 after a step. -/
def dataAfter (o : Host.Outcome State Fault Refusal) : Option (Vector Word 4) := (nextOf o).map State.data

/-- The response after a step. -/
def respAfter (o : Host.Outcome State Fault Refusal) : Option Response := (nextOf o).bind State.resp

/-- A machine about to see one event. -/
def about (e : Event) (s : State) : State := { s with script := [e] }

/-- The C.1 key words (V-C1). -/
def c1Key : List Word := [0x00010203, 0x04050607, 0x08090A0B, 0x0C0D0E0F]

/-- A machine that holds the C.1 key, expanded, with DONE acknowledged: STATUS 0x00000A08 (V-DEC). -/
def c1Expanded : State :=
  State.loadKeys (keyExpansion c1Key 4 10) 10
    { State.reset with key := #v[0x00010203, 0x04050607, 0x08090A0B, 0x0C0D0E0F, 0, 0, 0, 0] }

/-- The block of V-C1. -/
def c1Block : Vector Word 4 := #v[0x00112233, 0x44556677, 0x8899AABB, 0xCCDDEEFF]

/-- A machine with a command in flight, at the engine's turn. -/
def inFlight (p : Pending) (s : State) : State := { s with pend := some p, busy := true, done := false, agent := .engine }

/-- A record's machine: the record over the block of V-C1 in DATA0..3. -/
def blockInFlight (p : Grid → Pending) (d : Vector Word 4) : State := inFlight (p (toGrid d)) { State.reset with data := d }

/-! ## Well-formedness: an ill-formed word for each check of rule R84 -/

/-- Opcode 0x05 is reserved (rule R85). -/
theorem test_wellFormed_opcode : opcodeListed 0x00000005 = false ∧ wordWellFormed 0x00000005 = false := by decide
/-- NOP with RSV ≠ 0 (rule R90). -/
theorem test_wellFormed_reserved : reservedZero 0x00001000 = false ∧ wordWellFormed 0x00001000 = false := by decide
/-- ENCRYPT with RKI = 1 (rule R90). -/
theorem test_wellFormed_rki : rkiAllowed 0x00000102 = false ∧ wordWellFormed 0x00000102 = false := by decide
/-- ADDROUNDKEY 15 is well-formed (rule R90). -/
theorem test_wellFormed_accepts : wordWellFormed 0x00000F16 = true := by decide

/-! ## Decoding: RSV, RKI and OPC written bit by bit -/

/-- The control family: CLEAR, opcode 0x04 (rule R83). -/
theorem test_decode_clear : decode (0b00000000000000000000#20 ++ 0b0000#4 ++ 0b00000100#8) = .ok .clear := by decide
/-- The control family: NOP, opcode 0x00 (rule R83). -/
theorem test_decode_nop : decode (0b00000000000000000000#20 ++ 0b0000#4 ++ 0b00000000#8) = .ok .nop := by decide
/-- The key schedule: EXPAND, opcode 0x01 (rule R83). -/
theorem test_decode_expand : decode (0b00000000000000000000#20 ++ 0b0000#4 ++ 0b00000001#8) = .ok .expand := by decide
/-- The block cipher: DECRYPT, opcode 0x03 (rule R83). -/
theorem test_decode_decrypt : decode (0b00000000000000000000#20 ++ 0b0000#4 ++ 0b00000011#8) = .ok .decrypt := by decide
/-- The primitives: INVMIXCOLUMNS, opcode 0x15 (rule R83). -/
theorem test_decode_invMixColumns : decode (0b00000000000000000000#20 ++ 0b0000#4 ++ 0b00010101#8) = .ok .invMixColumns := by decide
/-- The primitives: `CMD ADDROUNDKEY 10` is 0x00000A16 (rule R90). -/
theorem test_decode_addRoundKey :
    decode (0b00000000000000000000#20 ++ 0b1010#4 ++ 0b00010110#8) = .ok (.addRoundKey 10) ∧
    encode (.addRoundKey 10) = 0x00000A16 := by decide
/-- No two rows of the opcode map overlap: on the bits both fix, two rows differ (rule R83). -/
theorem test_opcodeRows_disjoint :
    opcodeRows.Pairwise (fun r q => (r.value ^^^ q.value) &&& (r.mask &&& q.mask) ≠ 0) := by decide
/-- Each row's word is covered by its row and decodes to the command of its mnemonic (rule R83). -/
theorem test_opcodeRows_decode :
    ∀ r ∈ opcodeRows, r.covers r.value = true ∧ (decodeTableWord 32 r.value.toNat).map Instr.mnemonic = some r.mnemonic := by
  decide
/-- The host's fetch: NOP placed after reset is accepted, STATUS = 0x00000001 (rule R190). -/
theorem test_fetch_nop : statusAfter (step (State.reset.withFetchWord 32 0)) = some 0x00000001 := by decide +kernel

/-! ## The field and the tables (V-FLD, V-SB, V-KS-W) -/

theorem test_gmul : gmul 0x57 0x83 = 0xC1 ∧ gmul 0x57 0x13 = 0xFE ∧ gmul 0x0E 0xFF = 0x8D ∧ gmul 0xFF 0xFF = 0x13 := by decide
theorem test_xtime : xtime 0x57 = 0xAE ∧ xtime 0x80 = 0x1B ∧ xtime 0xFF = 0xE5 := by decide
theorem test_sbox : sbox 0x00 = 0x63 ∧ sbox 0x10 = 0xCA ∧ sbox 0x53 = 0xED ∧ sbox 0xFF = 0x16 := by decide
theorem test_rcon : (List.range' 1 10).map rcon = [0x01, 0x02, 0x04, 0x08, 0x10, 0x20, 0x40, 0x80, 0x1B, 0x36] := by decide
/-- V-KS-128: RK[43] of the all-zero 128-bit key. -/
theorem test_expansion_128 : (keyExpansion [0, 0, 0, 0] 4 10).getD 43 0 = 0x6F8F188E := by decide +kernel
/-- V-KS-192: RK[51] of the all-zero 192-bit key. -/
theorem test_expansion_192 : (keyExpansion [0, 0, 0, 0, 0, 0] 6 12).getD 51 0 = 0x984C5970 := by decide +kernel
/-- V-KS-256: RK[59] of the all-zero 256-bit key. -/
theorem test_expansion_256 : (keyExpansion [0, 0, 0, 0, 0, 0, 0, 0] 8 14).getD 59 0 = 0xCB706385 := by decide +kernel

/-! ## The commands: one acceptance and one completion each -/

/-- V-DEC: NOP accepted over the C.1 expansion, STATUS = 0x00000A09. -/
theorem test_nop_accepted : statusAfter (step (about (cmdWrite 0x00000000) c1Expanded)) = some 0x00000A09 := by decide +kernel
/-- V-CTL: NOP's completion with IE_DONE = 1 raises the interrupt, STATUS = 0x00001002. -/
theorem test_nop_completes :
    statusAfter (exec .nop (inFlight .nop { State.reset with ieDone := true })) = some 0x00001002 := by decide +kernel
/-- V-DEC: CLEAR accepted over the C.1 expansion drops it, STATUS = 0x00000001. -/
theorem test_clear_accepted : statusAfter (step (about (cmdWrite 0x00000004) c1Expanded)) = some 0x00000001 := by decide +kernel
/-- Rule R191: CLEAR's completion zeroes the key words. -/
theorem test_clear_completes :
    (nextOf (exec .clear (inFlight .clear { c1Expanded with keyvalid := false, knr := 0 }))).map (fun s => (s.key[3], s.rk[43])) =
      some (0, 0) := by decide +kernel
/-- V-ERR: EXPAND with KSZ = 3 raises BADKSZ, STATUS = 0x00000034. -/
theorem test_expand_badksz : statusAfter (step (about (cmdWrite 0x00000001) { State.reset with ksz := 3 })) = some 0x00000034 := by
  decide +kernel
/-- V-KS-C: EXPAND of the C.1 key, RK[40] = 0x13111D7F and STATUS = 0x00000A0A. -/
theorem test_expand_completes :
    (nextOf (exec .expand (inFlight (.expand c1Key 4 10) State.reset))).map (fun s => (s.rk[40], s.statusWord)) =
      some (0x13111D7F, 0x00000A0A) := by decide +kernel
/-- V-ERR: ENCRYPT after reset raises NOKEY, STATUS = 0x00000044. -/
theorem test_encrypt_nokey : statusAfter (step (about (cmdWrite 0x00000002) State.reset)) = some 0x00000044 := by decide +kernel
/-- V-C1: the NIST ciphertext. -/
theorem test_encrypt_completes :
    dataAfter (exec .encrypt (inFlight (.encrypt (toGrid c1Block) 10) c1Expanded)) =
      some #v[0x69C4E0D8, 0x6A7B0430, 0xD8CDB780, 0x70B4C55A] := by decide +kernel
/-- V-DEC: DECRYPT accepted over the C.1 expansion, STATUS = 0x00000A09. -/
theorem test_decrypt_accepted : statusAfter (step (about (cmdWrite 0x00000003) c1Expanded)) = some 0x00000A09 := by decide +kernel
/-- V-C1: the NIST plaintext back, which the losing readings of V-C3L do not give. -/
theorem test_decrypt_completes :
    dataAfter (exec .decrypt (inFlight (.decrypt (toGrid #v[0x69C4E0D8, 0x6A7B0430, 0xD8CDB780, 0x70B4C55A]) 10) c1Expanded)) =
      some c1Block := by decide +kernel
/-- V-TR: SUBBYTES. -/
theorem test_subBytes : dataAfter (exec .subBytes (blockInFlight .subBytes c1Block)) =
    some #v[0x638293C3, 0x1BFC33F5, 0xC4EEACEA, 0x4BC12816] := by decide +kernel
/-- V-TR: INVSUBBYTES. -/
theorem test_invSubBytes :
    dataAfter (exec .invSubBytes (blockInFlight .invSubBytes #v[0x63CAB704, 0x0953D051, 0xCD60E0E7, 0xBA70E18C])) =
      some #v[0x00102030, 0x40506070, 0x8090A0B0, 0xC0D0E0F0] := by decide +kernel
/-- V-TR: SHIFTROWS. -/
theorem test_shiftRows : dataAfter (exec .shiftRows (blockInFlight .shiftRows c1Block)) =
    some #v[0x0055AAFF, 0x4499EE33, 0x88DD2277, 0xCC1166BB] := by decide +kernel
/-- V-TR: INVSHIFTROWS. -/
theorem test_invShiftRows : dataAfter (exec .invShiftRows (blockInFlight .invShiftRows c1Block)) =
    some #v[0x00DDAA77, 0x4411EEBB, 0x885522FF, 0xCC996633] := by decide +kernel
/-- V-TR: MIXCOLUMNS. -/
theorem test_mixColumns :
    dataAfter (exec .mixColumns (blockInFlight .mixColumns #v[0xD4D4D4D5, 0x2D26314C, 0x00000000, 0xFFFFFFFF])) =
      some #v[0xD5D5D7D6, 0x4D7EBDF8, 0x00000000, 0xFFFFFFFF] := by decide +kernel
/-- V-TR: INVMIXCOLUMNS. -/
theorem test_invMixColumns : dataAfter (exec .invMixColumns (blockInFlight .invMixColumns c1Block)) =
    some #v[0xAAFF88DD, 0xEEBBCC99, 0x22770055, 0x66334411] := by decide +kernel
/-- V-DEC: ADDROUNDKEY 14 with KNR = 10 raises BADRKI, STATUS = 0x00000A5C. -/
theorem test_addRoundKey_badrki : statusAfter (step (about (cmdWrite 0x00000E16) c1Expanded)) = some 0x00000A5C := by decide +kernel
/-- V-TR: ADDROUNDKEY 1. -/
theorem test_addRoundKey_completes :
    dataAfter (exec (.addRoundKey 1)
      (inFlight (.addRoundKey (toGrid #v[0x5F726415, 0x57F5BC92, 0xF7BE3B29, 0x1DB9F91A]) 1) c1Expanded)) =
      some #v[0x89D810E8, 0x855ACE68, 0x2D1843D8, 0xCB128FE4] := by decide +kernel

/-! ## Registers, errors and the bus -/

/-- V-BUS: a write of all ones to CTRL reads back as 0x00000033. -/
theorem test_ctrl_mask : (nextOf (step (about (writeOf .ctrl 0xFFFFFFFF) State.reset))).map State.ctrlWord = some 0x00000033 := by
  decide +kernel
/-- V-BUS: a write of all ones to RKADDR reads back as 0x0000003F. -/
theorem test_rkaddr_mask : (nextOf (step (about (writeOf .rkaddr 0xFFFFFFFF) State.reset))).map State.rkaddrWord = some 0x0000003F := by
  decide +kernel
/-- V-CTL: a CTRL write that changes KSZ drops the expansion, and one that keeps it does not. -/
theorem test_ctrl_ksz :
    statusAfter (step (about (writeOf .ctrl 0x00000001) { c1Expanded with done := true })) = some 0x00000002 ∧
    statusAfter (step (about (writeOf .ctrl 0x00000000) { c1Expanded with done := true })) = some 0x00000A0A := by decide +kernel
/-- V-CTL: a write of KEY7, which EXPAND does not read at KSZ = 0, drops the expansion. -/
theorem test_key_write_drops : statusAfter (step (about (writeOf (.key 7) 0) { c1Expanded with done := true })) = some 0x00000002 := by
  decide +kernel
/-- V-ERR: with ENCRYPT in flight, an illegal word raises BUSY, not ILLEGAL: STATUS = 0x00000A2D. -/
theorem test_busy_beats_illegal :
    statusAfter (step (about (cmdWrite 0x00000005) (inFlight (.encrypt (toGrid c1Block) 10) c1Expanded))) = some 0x00000A2D := by
  decide +kernel
/-- V-ERR: ILLEGAL beats NOKEY. -/
theorem test_illegal_beats_nokey : statusAfter (step (about (cmdWrite 0x00001016) State.reset)) = some 0x00000014 := by decide +kernel
/-- V-ERR: the first error wins. -/
theorem test_first_error_wins :
    statusAfter (step (about (cmdWrite 0x00001002) { State.reset with errv := true, errcode := .noKey })) = some 0x00000044 := by
  decide +kernel
/-- P2 rows 6 and 8: RKDATA at the last word of the C.1 expansion, and 0 past it. -/
theorem test_rkdata :
    respAfter (step (about (readOf .rkdata) { c1Expanded with idx := 43 })) = some (.okay (some 0x4D2B30C5)) ∧
    respAfter (step (about (readOf .rkdata) { c1Expanded with idx := 44 })) = some (.okay (some 0)) := by decide +kernel
/-- V-BUS: ID and CMD read as constants. -/
theorem test_constant_reads :
    respAfter (step (about (readOf .id) State.reset)) = some (.okay (some 0x41455301)) ∧
    respAfter (step (about (readOf .cmd) State.reset)) = some (.okay (some 0)) := by decide +kernel
/-- V-BUS: the reserved offsets 0x18, 0x1C, 0x50 and 0xFC, the unaligned 0x41 and an 8-bit access get the bus error. -/
theorem test_bus_error :
    ([(32, 0x18), (32, 0x1C), (32, 0x50), (32, 0xFC), (32, 0x41), (8, 0x40)].map fun (b, o) =>
      respAfter (step (about (.access (.read b o)) State.reset))) = List.replicate 6 (some (.busError (some 0))) := by decide +kernel
/-- V-BUS: the last offset below each reserved range is a register. -/
theorem test_bus_okay :
    ([0x14, 0x20, 0x3C, 0x40, 0x4C].map fun o =>
      respAfter (step (about (.access (.read 32 o)) State.reset))) = List.replicate 5 (some (.okay (some 0))) := by decide +kernel
/-- V-RST: a reset with ENCRYPT in flight leaves STATUS 0. -/
theorem test_reset_in_flight :
    statusAfter (step (about .reset (inFlight (.encrypt (toGrid c1Block) 10) c1Expanded))) = some 0 := by decide +kernel
/-- Rule R89: the assembly forms are the bus transactions of rule R87's table. -/
theorem test_assembly :
    asmAck = .access (.write 32 0x08 0x00000006) ∧ asmCmd (.addRoundKey 10) = .access (.write 32 0x0C 0x00000A16) ∧
    (asmLdKey c1Key).getLast? = some (.access (.write 32 0x2C 0x0C0D0E0F)) ∧ asmPoll = .access (.read 32 0x08) ∧
    (asmLdBlk 1 2 3 4).getLast? = some (.access (.write 32 0x4C 4)) ∧ asmStBlk.head? = some (.access (.read 32 0x40)) ∧
    asmSetKsz 3 false true = .access (.write 32 0x04 0x00000023) := by decide

/-! ## Witnesses: concrete states and operands that meet the hypotheses of the statements -/

/-- A busy machine at the host's turn. -/
def busyState : State := { State.reset with busy := true, pend := some .nop }

theorem witness_WellFormedWordsDecodeAndOthersRaiseIllegal : ∃ (s : State) (rest : List Event) (w : Word),
    s.script = writeOf .cmd w :: rest ∧ s.busy = false ∧ wordWellFormed w = false :=
  ⟨about (writeOf .cmd 0x80000002) State.reset, [], 0x80000002, by decide⟩
theorem witness_StepRunsTheCommandWritten : (∃ (s : State) (rest : List Event) (w : Word) (i : Instr), s.script = writeOf .cmd w :: rest ∧ decode w = .ok i) ∧
    ∃ (nbits w : Nat) (i : Instr), decodeTableWord nbits w = some i :=
  ⟨⟨about (writeOf .cmd 0x00000A16) State.reset, [], 0x00000A16, .addRoundKey 10, by decide⟩, 32, 0x16, .addRoundKey 0, by decide⟩
theorem witness_EngineStepRunsTheCommandInFlight : (∃ (s : State) (rest : List Event) (p : Pending), engineNext s rest ∧ s.script ≠ [] ∧ s.pend = some p) ∧
    ∃ (s : State) (rest : List Event) (p : Pending), engineNext s rest ∧ s.script = [] ∧ s.pend = some p :=
  ⟨⟨about .engineComplete busyState, [], .nop, by unfold engineNext; decide⟩,
   ⟨busyState, [], .nop, by unfold engineNext; decide⟩⟩
theorem witness_NopIsTheHandshakeAlone : (∃ s : State, s.agent = .host ∧ s.busy = false) ∧
    ∃ s : State, s.agent = .engine ∧ s.pend = some .nop :=
  ⟨⟨State.reset, by decide⟩, inFlight .nop State.reset, by decide⟩
theorem witness_ClearErasesKeyDataAndExpansion : ∃ s : State, s.agent = .engine ∧ s.pend = some .clear :=
  ⟨inFlight .clear State.reset, by decide⟩
theorem witness_ExpandAcceptanceCapturesTheKey : ∃ s : State, s.agent = .host ∧ s.busy = false ∧ s.ksz ≠ 3 ∧ nkOf s.ksz = 8 :=
  ⟨{ State.reset with ksz := 2 }, by decide⟩
theorem witness_ReservedKeySizeIsStoredAndRejectedByExpand :
    (∃ (s : State) (rest : List Event) (v : Word), s.script = writeOf .ctrl v :: rest ∧ s.busy = false ∧ v.extractLsb' 0 2 = 3#2) ∧
    ∃ s : State, s.agent = .host ∧ s.busy = false ∧ s.ksz = 3 :=
  ⟨⟨about (writeOf .ctrl 0x00000023) State.reset, [], 0x00000023, by decide⟩, { State.reset with ksz := 3 }, by decide⟩
theorem witness_ExpandCompletionLoadsTheExpansion : ∃ (s : State) (k : List Word) (nk nr : Nat),
    s.agent = .engine ∧ s.pend = some (.expand k nk nr) ∧ (nr = 10 ∨ nr = 12 ∨ nr = 14) :=
  ⟨inFlight (.expand c1Key 4 10) State.reset, c1Key, 4, 10, by decide⟩
theorem witness_CiphersAreAcceptedOnlyWithAKey : ∃ c ∈ ciphers, c.1 = .encrypt ∧
    (∃ s : State, s.agent = .host ∧ s.busy = false ∧ s.keyvalid = true) ∧
    ∃ s : State, s.agent = .host ∧ s.busy = false ∧ s.keyvalid = false :=
  ⟨_, List.mem_cons_self .., rfl, ⟨{ State.reset with keyvalid := true }, by decide⟩, State.reset, by decide⟩
theorem witness_CiphersCompleteWithTheTransformedBlock : ∃ c ∈ ciphers, ∃ (s : State) (blk : Grid) (nr : Nat),
    s.agent = .engine ∧ s.pend = some (c.2.1 blk nr) ∧ 1 ≤ nr :=
  ⟨_, List.mem_cons_self .., inFlight (.encrypt (toGrid c1Block) 10) State.reset, toGrid c1Block, 10, by decide⟩
theorem witness_KeylessPrimitives : ∃ c ∈ keyless, (∃ s : State, s.agent = .host ∧ s.busy = false) ∧
    ∃ (s : State) (blk : Grid), s.agent = .engine ∧ s.pend = some (c.2.1 blk) :=
  ⟨_, List.mem_cons_self .., ⟨State.reset, by decide⟩, inFlight (.subBytes (toGrid c1Block)) State.reset, toGrid c1Block, by decide⟩
/-- The three outcomes, at the boundary of the index: no key, `i = KNR + 1` and `i = KNR`. -/
theorem witness_AddRoundKeyChecksKeyThenIndex :
    (∃ s : State, s.agent = .host ∧ s.busy = false ∧ s.keyvalid = false) ∧
    (∃ s : State, s.agent = .host ∧ s.busy = false ∧ s.keyvalid = true ∧ s.knr.toNat < (11 : BitVec 4).toNat) ∧
    ∃ s : State, s.agent = .host ∧ s.busy = false ∧ s.keyvalid = true ∧ ¬ s.knr.toNat < (10 : BitVec 4).toNat :=
  ⟨⟨State.reset, by decide⟩, ⟨{ State.reset with keyvalid := true, knr := 10 }, by decide⟩,
   { State.reset with keyvalid := true, knr := 10 }, by decide⟩
theorem witness_AddRoundKeyXorsTheRoundKeyWords : ∃ (i : BitVec 4) (s : State), s.agent = .engine ∧
    s.pend = some (.addRoundKey (toGrid s.data) i) ∧ i.toNat ≤ 14 ∧ ∃ (c : Fin 4) (j : Fin 60), j.val = 4 * i.toNat + c.val :=
  ⟨14, inFlight (.addRoundKey (toGrid State.reset.data) 14) State.reset, by decide, by decide, by decide, 3, 59, by decide⟩
theorem witness_BusyEngineRejectsEveryCommand : ∃ s : State, s.agent = .host ∧ s.busy = true := ⟨busyState, by decide⟩
/-- Each check of the order fails somewhere, and all pass somewhere: ADDROUNDKEY 10 at KNR = 10. -/
theorem witness_CommandWriteRaisesTheFirstErrorInOrder :
    firstError busyState 0x00000005 = some .busy ∧ firstError State.reset 0x00001016 = some .illegal ∧
    firstError { State.reset with ksz := 3 } 0x00000001 = some .badKsz ∧ firstError State.reset 0x00000516 = some .noKey ∧
    firstError { State.reset with keyvalid := true, knr := 10 } 0x00000B16 = some .badRki ∧
    firstError { State.reset with keyvalid := true, knr := 10 } 0x00000A16 = none ∧
    (about (writeOf .cmd 0x00000A16) State.reset).script = writeOf .cmd 0x00000A16 :: [] := by decide
theorem witness_HostHalfFrame : ∃ (i : Instr) (s : State), s.agent = .host ∧ (nextOf (exec i s)).isSome = true :=
  ⟨.clear, State.reset, by decide⟩
theorem witness_BlockCommandFrame : ∃ (i : Instr) (s : State), i ≠ .nop ∧ i ≠ .clear ∧ i ≠ .expand ∧ s.agent = .engine ∧
    (nextOf (exec i s)).isSome = true :=
  ⟨.shiftRows, blockInFlight .shiftRows c1Block, by decide⟩
/-- The first RAM word that a 128-bit expansion does not load is word 44. -/
theorem witness_NopExpandClearFrame : (∃ s : State, s.agent = .engine ∧ (nextOf (exec .nop s)).isSome = true) ∧
    (∃ (s : State) (k : List Word) (nk nr : Nat) (j : Fin 60), s.agent = .engine ∧ (nextOf (exec .expand s)).isSome = true ∧
      s.pend = some (.expand k nk nr) ∧ 4 * (nr + 1) ≤ j.val) ∧
    ∃ s : State, s.agent = .engine ∧ (nextOf (exec .clear s)).isSome = true :=
  ⟨⟨inFlight .nop State.reset, by decide⟩,
   ⟨inFlight (.expand c1Key 4 10) State.reset, c1Key, 4, 10, 44, rfl, rfl, rfl, by decide⟩,
   inFlight .clear State.reset, by decide⟩
theorem witness_KeylessPrimitiveRunsFromWordToResult : ∃ c ∈ keyless, ∃ (s : State) (rest : List Event),
    s.busy = false ∧ s.pend = none ∧ s.script = writeOf .cmd (encode c.1) :: .engineComplete :: rest :=
  ⟨_, List.mem_cons_self .., { State.reset with script := [writeOf .cmd 0x10, .engineComplete] }, [], by decide⟩
theorem witness_CipherRunsFromWordToResult : ∃ c ∈ ciphers, ∃ (s : State) (rest : List Event),
    s.busy = false ∧ s.pend = none ∧ s.keyvalid = true ∧ s.script = writeOf .cmd (encode c.1) :: .engineComplete :: rest :=
  ⟨_, List.mem_cons_self .., { State.reset with keyvalid := true, script := [writeOf .cmd 0x02, .engineComplete] }, [], by decide⟩
theorem witness_ExpandRunsFromWordToAValidKey : ∃ (s : State) (rest : List Event),
    s.busy = false ∧ s.pend = none ∧ s.ksz ≠ 3 ∧ s.script = writeOf .cmd 0x00000001 :: .engineComplete :: rest :=
  ⟨{ State.reset with script := [writeOf .cmd 0x01, .engineComplete] }, [], by decide⟩
theorem witness_register_writes (r : Reg) (v : Word) : ∃ (s : State) (rest : List Event), s.script = writeOf r v :: rest ∧ s.busy = false :=
  ⟨about (writeOf r v) State.reset, [], rfl, rfl⟩
theorem witness_register_writes_busy (r : Reg) (v : Word) : ∃ (s : State) (rest : List Event), s.script = writeOf r v :: rest ∧ s.busy = true :=
  ⟨about (writeOf r v) busyState, [], rfl, rfl⟩
theorem witness_register_reads (r : Reg) : ∃ (s : State) (rest : List Event), s.script = readOf r :: rest ∧ s.busy = false :=
  ⟨about (readOf r) State.reset, [], rfl, rfl⟩
theorem witness_InterruptLevelFollowsDoneAndError : ∃ (s : State) (rest : List Event), s.script = asmAck :: rest ∧ s.irq = true :=
  ⟨about asmAck { State.reset with done := true, ieDone := true }, [], by decide⟩
/-- The last index of the expansion, the first past it, and no expansion. -/
theorem witness_RkdataReadsTheExpansionOnly :
    (∃ (s : State) (rest : List Event) (j : Fin 60), s.script = readOf .rkdata :: rest ∧ s.busy = false ∧ s.keyvalid = true ∧ j.val = s.idx.toNat ∧
      s.idx.toNat < 4 * (s.knr.toNat + 1)) ∧
    (∃ (s : State) (rest : List Event), s.script = readOf .rkdata :: rest ∧ s.busy = false ∧ 4 * (s.knr.toNat + 1) ≤ s.idx.toNat) ∧
    ∃ (s : State) (rest : List Event), s.script = readOf .rkdata :: rest ∧ s.busy = false ∧ s.keyvalid = false :=
  ⟨⟨about (readOf .rkdata) { State.reset with keyvalid := true, knr := 14, idx := 59 }, [], 59, by decide⟩,
   ⟨about (readOf .rkdata) { State.reset with keyvalid := true, knr := 14, idx := 60 }, [], by decide⟩,
   about (readOf .rkdata) State.reset, [], by decide⟩
theorem witness_BusyReadsRevealNothing : ∃ (s t : State) (rest rest' : List Event), s.script = readOf (.data 0) :: rest ∧ t.script = readOf (.data 0) :: rest' ∧
    s.busy = true ∧ t.busy = true ∧ s.draws = t.draws ∧ s.data ≠ t.data :=
  ⟨about (readOf (.data 0)) busyState, about (readOf (.data 0)) { busyState with data := c1Block }, [], [], by decide⟩
/-- Each way an access is bad, at the edges of the reserved ranges, and one that is not. -/
theorem witness_BadAccessesGetTheBusError :
    (∀ p ∈ [((32 : Nat), (0x18 : BitVec 8)), (32, 0x1C), (32, 0x50), (32, 0xFC), (32, 0x01), (16, 0x40)],
      (p.2 = 0x18 ∨ p.2 = 0x1C ∨ 0x50 ≤ p.2.toNat ∨ p.1 ≠ 32 ∨ p.2.toNat % 4 ≠ 0)) ∧
    (∀ o ∈ [(0x00 : BitVec 8), 0x14, 0x20, 0x4C], ¬ (o = 0x18 ∨ o = 0x1C ∨ 0x50 ≤ o.toNat ∨ o.toNat % 4 ≠ 0)) ∧
    (∃ (s : State) (rest : List Event), s.script = .access (.read 32 0x18) :: rest) ∧ ∃ (s : State) (rest : List Event) (v : Word), s.script = .access (.write 32 0x18 v) :: rest :=
  ⟨by decide, by decide, ⟨about (.access (.read 32 0x18)) State.reset, [], rfl⟩, about (.access (.write 32 0x18 7)) State.reset, [], 7, rfl⟩
theorem witness_ReadsChangeNoRegister : ∃ (s : State) (rest : List Event) (bits : Nat) (off : BitVec 8), s.script = .access (.read bits off) :: rest :=
  ⟨about (.access (.read 16 0x40)) State.reset, [], 16, 0x40, rfl⟩
theorem witness_PendIsInvisibleToEveryAccess : ∃ (s : State) (rest : List Event), s.pend = none ∧ s.script = .access (.read 32 0x08) :: rest :=
  ⟨about (.access (.read 32 0x08)) State.reset, [], rfl, rfl⟩
theorem witness_ResetAbandonsTheCommandInFlight : ∃ (s u : State) (rest : List Event), s.script = .reset :: rest ∧ u.script = .reset :: rest ∧
    s.draws = u.draws ∧ s.busy ≠ u.busy :=
  ⟨about .reset busyState, about .reset State.reset, [], by decide⟩
theorem witness_SboxIsTheAffineMapOfTheInverse : ∃ x y : Byte, gmul x y = 1 := ⟨0x53, 0xCA, by decide⟩
theorem witness_ExpansionFollowsItsRecurrence : (∃ (k : List Word) (nk nr i : Nat), k.length = nk ∧ (nk = 4 ∨ nk = 6 ∨ nk = 8) ∧
    nr = nk + 6 ∧ nk ≤ i ∧ i < 4 * (nr + 1)) ∧ ∃ j : Nat, 1 ≤ j ∧ j < 10 := ⟨⟨c1Key, 4, 10, 43, by decide⟩, 9, by decide⟩
theorem witness_CiphersUseTheirRoundKeysOnly : ∃ (rk rk' : Vector Word 60), rk ≠ rk' ∧ ∀ j < 4 * (10 + 1), rkWord rk j = rkWord rk' j :=
  ⟨Vector.replicate 60 0, (Vector.replicate 60 0).set 44 1, by decide +kernel⟩
/-- Both orders. -/
theorem witness_EncryptThenDecryptRestoresTheData :
    ∀ p ∈ [(Instr.encrypt, Instr.decrypt), (Instr.decrypt, Instr.encrypt)], ∃ (s : State) (rest : List Event),
      s.busy = false ∧ s.pend = none ∧ s.keyvalid = true ∧
      s.script = writeOf .cmd (encode p.1) :: .engineComplete :: writeOf .cmd (encode p.2) :: .engineComplete :: rest :=
  fun p _ => ⟨{ State.reset with
      keyvalid := true
      script := [writeOf .cmd (encode p.1), .engineComplete, writeOf .cmd (encode p.2), .engineComplete] }, [], rfl, rfl, rfl, rfl⟩
/-- A machine of the invariant with a command in flight, and its next state. -/
theorem witness_EveryStepKeepsTheInvariant : ∃ s : State, s.Inv ∧ s.busy = true ∧ (nextOf (step s)).isSome = true :=
  ⟨busyState, by
    constructor <;> simp [State.handshakeOk, State.errorRecordOk, State.keyRecordOk, State.pendOk, busyState, State.reset], rfl, by decide⟩
/-- Two machines of the invariant that differ in a RAM word no expansion covers. -/
theorem witness_UnexpandedKeyWordsAreNeverObserved : ∃ s t : State, s.Inv ∧ s.agreeOnKeys t ∧ s.rk ≠ t.rk ∧
    (nextOf (step s)).isSome = true ∧ (nextOf (step t)).isSome = true :=
  ⟨busyState, { busyState with rk := busyState.rk.set 7 1 }, by
    constructor <;> simp [State.handshakeOk, State.errorRecordOk, State.keyRecordOk, State.pendOk, busyState, State.reset],
   ⟨rfl, fun h => absurd h (by decide)⟩, by decide +kernel, by decide, by decide⟩
/-- BUSY and DONE rise, and fall, somewhere. -/
theorem witness_OnlyTheNamedEventsMoveBusyAndDone :
    ((nextOf (step (about (cmdWrite 0) { State.reset with done := true }))).map fun t => (t.busy, t.done)) = some (true, false) ∧
    ((nextOf (step busyState)).map fun t => (t.busy, t.done)) = some (false, true) := by decide +kernel
/-- KEYVALID rises somewhere, and falls in the acceptance of EXPAND and of CLEAR, both of which pass every check there. -/
theorem witness_OnlyTheNamedEventsMoveKeyvalid :
    ((nextOf (step (inFlight (.expand c1Key 4 10) State.reset))).map State.keyvalid) = some true ∧
    (firstError { State.reset with keyvalid := true } 1 = none ∧
      ((nextOf (step (about (cmdWrite 1) { State.reset with keyvalid := true }))).map State.keyvalid) = some false) ∧
    firstError { State.reset with keyvalid := true } 4 = none ∧
      ((nextOf (step (about (cmdWrite 4) { State.reset with keyvalid := true }))).map State.keyvalid) = some false := by decide +kernel
/-- A schedule with engine work and a read to come, with a command in flight and no reset to come. -/
theorem witness_CommandsInFlightCompleteUnlessReset : ∃ s : State, s.Inv ∧ s.pend = some .nop ∧
    s.script = [.engineWork, readOf .status] ∧ .reset ∉ s.script :=
  ⟨{ busyState with script := [.engineWork, readOf .status] }, by
    constructor <;> simp [State.handshakeOk, State.errorRecordOk, State.keyRecordOk, State.pendOk, busyState, State.reset], rfl, rfl,
    by decide⟩

end Sys2Proof.Tests
end

section
-- The bodies are elaborated one after the other: side by side they do not fit in the check's memory.
set_option deprecated.oldSectionVars true
/-!
PROOFS. What the claims' own words mean in the model's operations, and the step of each kind of event: the facts that the proofs
about registers, commands and whole runs share.
-/

namespace Sys2Proof.Machine

open Sys2Proof.Claims

/-! ## The claims' words as the model's operations -/

/-! An answered access has changed no register. -/

@[simp] theorem answered_busy (s : State) (rest : List Event) (r : Response) : (answered s rest r).busy = s.busy := rfl
@[simp] theorem answered_done (s : State) (rest : List Event) (r : Response) : (answered s rest r).done = s.done := rfl
@[simp] theorem answered_keyvalid (s : State) (rest : List Event) (r : Response) :
    (answered s rest r).keyvalid = s.keyvalid := rfl
@[simp] theorem answered_errv (s : State) (rest : List Event) (r : Response) : (answered s rest r).errv = s.errv := rfl
@[simp] theorem answered_errcode (s : State) (rest : List Event) (r : Response) :
    (answered s rest r).errcode = s.errcode := rfl
@[simp] theorem answered_key (s : State) (rest : List Event) (r : Response) : (answered s rest r).key = s.key := rfl
@[simp] theorem answered_data (s : State) (rest : List Event) (r : Response) : (answered s rest r).data = s.data := rfl

/-- `raise` sets ERRV whatever it was, and keeps a code already recorded. -/
theorem State.raise_eq_raised (s : State) (e : ErrorCode) : s.raise e = raised s e := by
  obtain ⟨he, h⟩ | ⟨he, h⟩ := s.raise_cases e
  · rw [h]; simp [raised, ← he]
  · rw [h, raised, he]; rfl

/-- A completion's handshake, as the claims write it. -/
theorem State.complete_eq_completed (s : State) : s.complete = completed s := rfl

/-- The acceptance of a command that drops no key, as the claims write it. -/
theorem State.accept_eq_accepted (s : State) (p : Pending) (h : p.dropsKey = false) : s.accept p = accepted s p := by
  simp [State.accept, h, accepted, State.startCommand]

/-! A write to KEYk drops the expansion (rule R37). -/

@[simp] theorem State.writeKey_keyvalid (s : State) (k : Fin 8) (v : Word) : (s.writeKey k v).keyvalid = false := rfl
@[simp] theorem State.writeKey_knr (s : State) (k : Fin 8) (v : Word) : (s.writeKey k v).knr = 0 := rfl
@[simp] theorem State.writeKey_key (s : State) (k : Fin 8) (v : Word) : (s.writeKey k v).key = s.key.set k v := rfl

/-! ## The step of each kind of event -/

/-- The host is silent and nothing is in flight. -/
theorem step_of_silent (s : State) (hp : s.pend = none) (h : s.script = []) : step s = .next s := by
  simp [step, nextMove, h, hp]

/-- A completion step that is not enabled. -/
theorem step_of_completeIdle (s : State) (rest : List Event) (hp : s.pend = none) (h : s.script = .engineComplete :: rest) :
    step s = .next (s.turn .engine rest) := by
  simp [step, nextMove, h, State.engineMove, hp]

/-- A working step of the engine. -/
theorem step_of_engineWork (s : State) (rest : List Event) (h : s.script = .engineWork :: rest) :
    step s = .next (s.turn .engine rest) := by
  simp [step, nextMove, h]

/-- A reset. -/
theorem step_of_reset (s : State) (rest : List Event) (h : s.script = .reset :: rest) :
    step s = .next (s.turn .host rest).resetNow := by
  simp [step, nextMove, h]

/-- A read that reaches no register. -/
theorem step_of_unmappedRead (s : State) (rest : List Event) (bits : Nat) (off : BitVec 8) (ht : target bits off = none)
    (h : s.script = .access (.read bits off) :: rest) : step s = .next (answered s rest (.busError (some 0))) := by
  simp only [step, nextMove, h, State.accessMove, ht]
  rfl

/-- A write that reaches no register. -/
theorem step_of_unmappedWrite (s : State) (rest : List Event) (bits : Nat) (off : BitVec 8) (v : Word)
    (ht : target bits off = none) (h : s.script = .access (.write bits off v) :: rest) :
    step s = .next (answered s rest (.busError none)) := by
  simp only [step, nextMove, h, State.accessMove, ht]
  rfl

/-- Whether a read is unspecified does not depend on whose turn it is. -/
@[simp] theorem State.unspecifiedRead_turn (s : State) (g : Agent) (rest : List Event) (r : Reg) :
    (s.turn g rest).unspecifiedRead r = s.unspecifiedRead r := by
  cases r <;> rfl

/-- What a register reads as does not depend on whose turn it is. -/
@[simp] theorem State.regWord_turn (s : State) (g : Agent) (rest : List Event) (r : Reg) :
    (s.turn g rest).regWord r = s.regWord r := by
  cases r <;> rfl

/-- A read whose word the spec leaves unspecified (rule R47). -/
theorem step_readOf_unspecified (s : State) (rest : List Event) (r : Reg) (h : s.script = readOf r :: rest)
    (hr : s.unspecifiedRead r = true) :
    step s = .next { answered s rest (.okay (some s.freeWord)) with draws := s.draws + 1 } := by
  rw [step_read s rest r h, State.readReg, State.unspecifiedRead_turn, if_pos hr]
  rfl

/-- Every other read answers the register's word. -/
theorem step_readOf (s : State) (rest : List Event) (r : Reg) (h : s.script = readOf r :: rest)
    (hr : s.unspecifiedRead r = false) : step s = .next (answered s rest (.okay (some (s.regWord r)))) := by
  rw [step_read s rest r h, State.readReg, State.unspecifiedRead_turn, if_neg (by simp [hr]), State.regWord_turn]
  rfl

/-- With BUSY = 0 no read is unspecified. -/
theorem State.unspecifiedRead_of_idle (s : State) (r : Reg) (h : s.busy = false) : s.unspecifiedRead r = false := by
  cases r with
  | rkdata => exact h
  | key _ => exact h
  | data _ => exact h
  | _ => rfl

/-- The write of a register other than CMD. -/
theorem step_writeOf (s : State) (rest : List Event) (r : Reg) (v : Word) (hr : r ≠ .cmd) (h : s.script = writeOf r v :: rest) :
    step s = .next ((answered s rest (.okay none)).writeReg v r) :=
  step_write s rest r v hr h

/-- The CMD write of a command, the command still to run. -/
theorem step_writeOf_cmd (s : State) (rest : List Event) (w : Word) (i : Instr) (hw : decode w = .ok i)
    (h : s.script = writeOf .cmd w :: rest) : step s = exec i (answered s rest (.okay none)) :=
  step_command s rest w i hw h

/-- The CMD write of a word that is no command. -/
theorem step_writeOf_cmd_rejected (s : State) (rest : List Event) (w : Word) (e : Reject) (hw : decode w = .error e)
    (h : s.script = writeOf .cmd w :: rest) :
    step s = .next ((answered s rest (.okay none)).raise (if s.busy then .busy else .illegal)) :=
  step_badWord s rest w e hw h

/-- The four forms of an access: one that reaches no register, or the 32-bit access at a register's offset. -/
theorem access_cases (a : Access) :
    (∃ bits off, a = .read bits off ∧ target bits off = none) ∨
    (∃ bits off v, a = .write bits off v ∧ target bits off = none) ∨
    (∃ r, Event.access a = readOf r) ∨ ∃ r v, Event.access a = writeOf r v := by
  cases a with
  | read bits off =>
    cases ht : target bits off with
    | none => exact .inl ⟨bits, off, rfl, ht⟩
    | some r =>
      obtain ⟨rfl, hr⟩ := target_eq_some.mp ht
      exact .inr (.inr (.inl ⟨r, by rw [regAt_eq_some] at hr; rw [hr]; rfl⟩))
  | write bits off v =>
    cases ht : target bits off with
    | none => exact .inr (.inl ⟨bits, off, v, rfl, ht⟩)
    | some r =>
      obtain ⟨rfl, hr⟩ := target_eq_some.mp ht
      exact .inr (.inr (.inr ⟨r, v, by rw [regAt_eq_some] at hr; rw [hr]; rfl⟩))

/-! ## The two halves of a command -/

/-- The host half of an accepted command. -/
theorem exec_of_accepted (i : Instr) (s : State) (ha : s.agent = .host) (hb : s.busy = false) (hpre : precondition s i = none) :
    exec i s = .next (s.accept (capture s i)) := by
  rw [exec_host i s ha, hpre, s.issue_of_accepted _ hb]

/-- The host half of a command whose precondition fails. -/
theorem exec_of_refused (i : Instr) (s : State) (e : ErrorCode) (ha : s.agent = .host) (hb : s.busy = false)
    (hpre : precondition s i = some e) : exec i s = .next (raised s e) := by
  rw [exec_host i s ha, hpre, s.issue_of_error e _ hb, s.raise_eq_raised]

/-- What the engine half of a command can do: complete the command if it is in flight, or nothing. -/
theorem exec_engine_cases {i : Instr} {s t : State} (ha : s.agent = .engine) (h : exec i s = .next t) :
    (∃ p, s.pend = some p ∧ p.instr = i ∧ t = (writeResult s p).complete) ∨ t = s := by
  obtain ⟨hh, -⟩ | ⟨p, -, hp, hi, he⟩ | ⟨-, he⟩ := exec_cases i s
  · simp [ha] at hh
  · exact .inl ⟨p, hp, hi, by rw [he] at h; exact (Host.Outcome.next.inj h).symm⟩
  · exact .inr (by rw [he] at h; exact (Host.Outcome.next.inj h).symm)

/-- The record of an EXPAND in flight. -/
theorem Pending.instr_eq_expand {p : Pending} : p.instr = .expand ↔ ∃ k nk nr, p = .expand k nk nr := by
  cases p <;> simp [Pending.instr]

/-- The record of a NOP in flight. -/
theorem Pending.instr_eq_nop {p : Pending} : p.instr = .nop ↔ p = .nop := by
  cases p <;> simp [Pending.instr]

/-- The record of a CLEAR in flight. -/
theorem Pending.instr_eq_clear {p : Pending} : p.instr = .clear ↔ p = .clear := by
  cases p <;> simp [Pending.instr]

/-- What a command requires is a matter of the registers: answering an access changes none. -/
@[simp] theorem precondition_answered (s : State) (rest : List Event) (r : Response) (i : Instr) :
    precondition (answered s rest r) i = precondition s i := by
  cases i <;> rfl

/-- What a command captures is a matter of the registers too. -/
@[simp] theorem capture_answered (s : State) (rest : List Event) (r : Response) (i : Instr) :
    capture (answered s rest r) i = capture s i := by
  cases i <;> rfl

/-- The step of the CMD write of a command: the command issued. -/
theorem step_writeOf_cmd_issue (s : State) (rest : List Event) (w : Word) (i : Instr) (hw : decode w = .ok i)
    (h : s.script = writeOf .cmd w :: rest) :
    step s = .next ((answered s rest (.okay none)).issue (precondition s i) (capture s i)) := by
  rw [step_writeOf_cmd s rest w i hw h, exec_host _ _ rfl, precondition_answered, capture_answered]

/-! What each command requires (rules R24, R156, R175 and R200). -/

theorem precondition_expand (s : State) : precondition s .expand = if s.ksz = 3 then some .badKsz else none := rfl

theorem precondition_encrypt (s : State) : precondition s .encrypt = if s.keyvalid then none else some .noKey := rfl

theorem precondition_decrypt (s : State) : precondition s .decrypt = if s.keyvalid then none else some .noKey := rfl

theorem precondition_addRoundKey (s : State) (i : BitVec 4) : precondition s (.addRoundKey i) =
    if s.keyvalid then (if s.knr < i then some .badRki else none) else some .noKey := rfl

/-- A failed check names an error: never the code NONE. -/
theorem precondition_ne_noError (s : State) (i : Instr) : precondition s i ≠ some .noError := by
  cases i with
  | expand => rw [precondition_expand]; split_ifs <;> simp
  | encrypt => rw [precondition_encrypt]; split_ifs <;> simp
  | decrypt => rw [precondition_decrypt]; split_ifs <;> simp
  | addRoundKey i => rw [precondition_addRoundKey]; split_ifs <;> simp
  | _ => exact (Option.some_ne_none _).symm

end Sys2Proof.Machine
end

section
-- The bodies are elaborated one after the other: side by side they do not fit in the check's memory.
set_option deprecated.oldSectionVars true
/-!
PROOFS. The invariant: each operation of the model keeps it, so every step does (statements O55 and O56).
-/

namespace Sys2Proof.Machine

open Sys2Proof.Claims

/-! ## The expansion held -/

/-- A key size that EXPAND accepts has at most fourteen rounds, so its expansion fits the RAM and KNR. -/
theorem nrOf_le (k : BitVec 2) (h : k ≠ 3) : nrOf k ≤ 14 := by
  revert k; decide

/-- A round-key word inside the RAM is the RAM's entry. -/
theorem rkWord_eq_getElem (rk : Vector Word 60) (j : Nat) (h : j < 60) : rkWord rk j = rk[j] := by
  simp [rkWord, Vector.getD, h]

/-- After an expansion is loaded, the RAM reads as it, up to the words it has. -/
theorem rkWord_loadKeys (w : List Word) (nr : Nat) (s : State) (hnr : nr ≤ 14) (j : Nat) (hj : j < 4 * (nr + 1)) :
    rkWord (s.loadKeys w nr).rk j = w.getD j 0 := by
  rw [rkWord_eq_getElem _ _ (by omega), State.loadKeys_rk, Vector.getElem_ofFn, if_pos hj]

/-- KNR holds the round count of the expansion loaded (rule R29). -/
theorem toNat_loadKeys_knr (w : List Word) (nr : Nat) (s : State) (hnr : nr ≤ 14) : (s.loadKeys w nr).knr.toNat = nr := by
  rw [State.loadKeys_knr, BitVec.toNat_ofNat, Nat.mod_eq_of_lt (Nat.lt_succ_of_le (Nat.le_succ_of_le hnr))]

/-- Loading the expansion of the current key at an accepted size makes the machine hold it. -/
theorem State.loadKeys_holdsExpansion (s : State) (h : s.ksz ≠ 3) :
    (s.loadKeys s.currentExpansion (nrOf s.ksz)).holdsExpansion := by
  have hnr := nrOf_le s.ksz h
  exact ⟨h, toNat_loadKeys_knr _ _ _ hnr, rkWord_loadKeys _ _ _ hnr⟩

/-- Holding an expansion is a matter of RK, KEY, KSZ and KNR. -/
theorem State.holdsExpansion_congr {s t : State} (hrk : t.rk = s.rk) (hkey : t.key = s.key) (hksz : t.ksz = s.ksz)
    (hknr : t.knr = s.knr) (h : s.holdsExpansion) : t.holdsExpansion := by
  simpa only [State.holdsExpansion, State.rounds, State.currentExpansion, State.keyOperand, hrk, hkey, hksz, hknr] using h

/-! ## What keeps the invariant -/

/-- The model's own fields are no part of the invariant: a turn is taken. -/
theorem State.Inv.turn {s : State} (h : s.Inv) (g : Agent) (rest : List Event) : (s.turn g rest).Inv :=
  ⟨h.handshake, h.errorRecord, h.keyRecord, h.pending⟩

/-- A response becomes visible. -/
theorem State.Inv.respond {s : State} (h : s.Inv) (r : Response) : (s.respond r).Inv :=
  ⟨h.handshake, h.errorRecord, h.keyRecord, h.pending⟩

/-- Free values are drawn. -/
theorem State.Inv.draw {s : State} (h : s.Inv) (n : Nat) : (s.draw n).Inv :=
  ⟨h.handshake, h.errorRecord, h.keyRecord, h.pending⟩

/-- An idle machine of the invariant has no command in flight. -/
theorem State.Inv.pend_none {s : State} (h : s.Inv) (hb : s.busy = false) : s.pend = none := by
  by_contra hp
  simp [h.handshake.1.mpr hp] at hb

/-- A register read. -/
theorem State.Inv.readReg {s : State} (h : s.Inv) (r : Reg) : (s.readReg r).Inv := by
  obtain ⟨-, he⟩ | ⟨-, he⟩ := s.readReg_cases r
  · rw [he]; exact h.respond _
  · rw [he]; exact (h.respond _).draw 1

/-- An error is raised: the record then has a code, since no check raises NONE. -/
theorem State.Inv.raise {s : State} (h : s.Inv) (e : ErrorCode) (hne : e ≠ .noError) : (s.raise e).Inv := by
  obtain ⟨-, he⟩ | ⟨-, he⟩ := s.raise_cases e
  · rwa [he]
  · rw [he]
    exact ⟨h.handshake, by simp [State.errorRecordOk, hne], h.keyRecord, h.pending⟩

/-- The acknowledgement: DONE and the error record can only be cleared. -/
theorem State.Inv.acknowledge {s : State} (h : s.Inv) (v : Word) : (s.acknowledge v).Inv := by
  obtain ⟨⟨hbusy, hdone⟩, herr, hkey, hpend⟩ := h
  rw [State.acknowledge_eq]
  refine ⟨⟨hbusy, fun hb => by simp [hdone hb]⟩, ?_, hkey, hpend⟩
  cases v.getLsbD 2
  · simpa [State.errorRecordOk] using herr
  · simp [State.errorRecordOk]

/-- With no command in flight PEND holds nothing to check. -/
theorem State.pendOk_of_pend_none {s : State} (h : s.pend = none) : s.pendOk := by
  rw [State.pendOk, h]
  trivial

/-- Dropping the key record leaves the rest of the invariant alone, when no command in flight needs it. -/
theorem State.Inv.dropKey {s : State} (h : s.Inv) (hb : s.busy = false) : s.dropKey.Inv :=
  ⟨h.handshake, h.errorRecord, ⟨by simp, by simp⟩, State.pendOk_of_pend_none (h.pend_none hb)⟩

/-- A register other than CMD is written while no command is in flight. -/
theorem State.Inv.writeKey {s : State} (h : s.Inv) (hb : s.busy = false) (k : Fin 8) (v : Word) : (s.writeKey k v).Inv :=
  ⟨h.handshake, h.errorRecord, ⟨by simp, by simp⟩,
    State.pendOk_of_pend_none (h.pend_none hb)⟩

/-- The write of CTRL while idle: a new key size drops the expansion, the size held keeps it. -/
theorem State.Inv.writeCtrl {s : State} (h : s.Inv) (hb : s.busy = false) (v : Word) : (s.writeCtrl v).Inv := by
  rw [State.writeCtrl_eq]
  by_cases hk : v.extractLsb' 0 2 = s.ksz
  · simp only [hk, ne_eq, not_true_eq_false, if_false]
    exact ⟨h.handshake, h.errorRecord,
      ⟨fun hv => State.holdsExpansion_congr rfl rfl rfl rfl (h.keyRecord.1 hv), h.keyRecord.2⟩,
      State.pendOk_of_pend_none (h.pend_none hb)⟩
  · exact ⟨h.handshake, h.errorRecord, ⟨by simp [hk], by simp [hk]⟩, State.pendOk_of_pend_none (h.pend_none hb)⟩

/-- The write of IDX. -/
theorem State.Inv.setIdx {s : State} (h : s.Inv) (v : Word) : (s.setIdx v).Inv :=
  ⟨h.handshake, h.errorRecord, h.keyRecord, h.pending⟩

/-- The write of DATAk while idle: no command in flight has captured it. -/
theorem State.Inv.setData {s : State} (h : s.Inv) (hb : s.busy = false) (k : Fin 4) (v : Word) : (s.setData k v).Inv :=
  ⟨h.handshake, h.errorRecord, h.keyRecord, State.pendOk_of_pend_none (h.pend_none hb)⟩

/-- A guarded write keeps the invariant if the write does while idle. -/
theorem State.Inv.whenIdle {s : State} (h : s.Inv) (f : State → State) (hf : s.busy = false → (f s).Inv) :
    (s.whenIdle f).Inv := by
  obtain ⟨-, he⟩ | ⟨hb, he⟩ := s.whenIdle_cases f
  · rw [he]; exact h.raise _ (by decide)
  · rw [he]; exact hf hb

/-- A register write. -/
theorem State.Inv.writeReg {s : State} (h : s.Inv) (v : Word) (r : Reg) : (s.writeReg v r).Inv := by
  cases r with
  | id | rkdata | cmd => exact h
  | status => exact h.acknowledge v
  | ctrl => exact h.whenIdle _ fun hb => h.writeCtrl hb v
  | rkaddr => exact h.whenIdle _ fun _ => h.setIdx v
  | key k => exact h.whenIdle _ fun hb => h.writeKey hb k v
  | data k => exact h.whenIdle _ fun hb => h.setData hb k v

/-- Acceptance: what PEND captures is what the registers hold, and what the command required holds. -/
theorem State.pendOk_accept (s : State) (i : Instr) (hpre : precondition s i = none) : (s.accept (capture s i)).pendOk := by
  cases i with
  | nop => trivial
  | expand =>
    have hk : s.ksz ≠ 3 := by simpa [precondition_expand] using hpre
    exact ⟨rfl, hk, rfl, rfl, rfl⟩
  | encrypt | decrypt =>
    have hk : s.keyvalid = true := by simpa [precondition_encrypt, precondition_decrypt] using hpre
    exact ⟨hk, rfl, rfl⟩
  | clear => rfl
  | subBytes | invSubBytes | shiftRows | invShiftRows | mixColumns | invMixColumns => rfl
  | addRoundKey i =>
    have hk : s.keyvalid = true ∧ ¬ s.knr < i := by
      rw [precondition_addRoundKey] at hpre
      split_ifs at hpre with hv hi
      exact ⟨hv, hi⟩
    exact ⟨hk.1, rfl, BitVec.not_lt.mp hk.2⟩

/-- The acceptance of a command that passes its checks. -/
theorem State.Inv.accept {s : State} (h : s.Inv) (i : Instr) (hpre : precondition s i = none) :
    (s.accept (capture s i)).Inv := by
  refine ⟨?_, ?_, ?_, s.pendOk_accept i hpre⟩ <;> rw [State.accept_eq]
  · simp [State.handshakeOk]
  · exact h.errorRecord
  · cases hd : (capture s i).dropsKey
    · simp only [Bool.not_false, Bool.and_true, Bool.false_eq_true, if_false]
      exact h.keyRecord
    · simp [State.keyRecordOk]

/-- The issue of a command. -/
theorem State.Inv.issue {s : State} (h : s.Inv) (i : Instr) : (s.issue (precondition s i) (capture s i)).Inv := by
  obtain ⟨-, he⟩ | ⟨e, -, hpre, he⟩ | ⟨-, hpre, he⟩ := s.issue_cases (precondition s i) (capture s i)
  · rw [he]; exact h.raise _ (by decide)
  · rw [he]; exact h.raise e fun hne => precondition_ne_noError s i (hne ▸ hpre)
  · rw [he]; exact h.accept i hpre

/-- What a completion writes leaves the key record in order: EXPAND loads the expansion of the current key, CLEAR finds it dropped, and
the others write DATA0..3 only. -/
theorem State.Inv.keyRecordOk_writeResult {s : State} (h : s.Inv) {p : Pending} (hp : s.pend = some p) :
    (writeResult s p).keyRecordOk := by
  have hpend := h.pending
  rw [State.pendOk, hp] at hpend
  cases p with
  | expand k nk nr =>
    obtain ⟨-, hksz, rfl, rfl, rfl⟩ := hpend
    exact ⟨fun _ => s.loadKeys_holdsExpansion hksz, by simp [writeResult]⟩
  | clear => exact ⟨by simp [writeResult, show s.keyvalid = false from hpend], h.keyRecord.2⟩
  | _ => exact h.keyRecord

/-- A completion does not touch the error record. -/
@[simp] theorem writeResult_errv (s : State) (p : Pending) : (writeResult s p).errv = s.errv := by
  cases p <;> rfl

@[simp] theorem writeResult_errcode (s : State) (p : Pending) : (writeResult s p).errcode = s.errcode := by
  cases p <;> rfl

/-- The completion of the command in flight. -/
theorem State.Inv.complete {s : State} (h : s.Inv) {p : Pending} (hp : s.pend = some p) :
    (writeResult s p).complete.Inv :=
  ⟨by simp [State.handshakeOk], by simpa [State.errorRecordOk] using h.errorRecord,
    h.keyRecordOk_writeResult hp, trivial⟩

/-- A reset, from any state. -/
theorem State.inv_resetNow (s : State) : s.resetNow.Inv :=
  ⟨by simp [State.handshakeOk], by simp [State.errorRecordOk], by simp [State.keyRecordOk], trivial⟩

/-- A step keeps the invariant: the nine things a step can do, each by its operation. -/
theorem State.Inv.step {s t : State} (h : s.Inv) (hst : step s = .next t) : t.Inv := by
  obtain ⟨-, -, he⟩ | ⟨rest, p, -, hp, he⟩ | ⟨rest, -, he⟩ | ⟨rest, -, he⟩ | ⟨rest, -, d, -, he⟩ | ⟨rest, -, r, -, -, he⟩ |
    ⟨rest, -, v, r, -, -, -, he⟩ | ⟨rest, -, v, e, -, -, -, he⟩ | ⟨rest, -, v, i, -, -, -, he⟩ := step_cases s <;>
    obtain rfl : _ = t := Host.Outcome.next.inj (he.symm.trans hst)
  · exact h
  · exact (h.turn .engine rest).complete hp
  · exact h.turn .engine rest
  · exact State.inv_resetNow _
  · exact (h.turn .host rest).respond _
  · exact (h.turn .host rest).readReg r
  · exact ((h.turn .host rest).respond _).writeReg v r
  · exact ((h.turn .host rest).respond _).raise _ (by split <;> decide)
  · have hi := ((h.turn .host rest).respond (.okay none)).issue i
    rwa [show (s.turn .host rest).respond (.okay none) = answered s rest (.okay none) from rfl, precondition_answered,
      capture_answered] at hi

end Sys2Proof.Machine

namespace Sys2Proof.Proofs

open Sys2Proof.Machine

/-- Settles O55: the nine things a step can do each keep every part of the invariant. -/
theorem everyStepKeepsTheInvariant : Obligations.EveryStepKeepsTheInvariant :=
  fun _ _ h hst => h.step hst

/-- Settles O56. -/
theorem invariantHoldsAtReset : Obligations.InvariantHoldsAtReset :=
  ⟨by simp [State.handshakeOk, State.reset], by simp [State.errorRecordOk, State.reset],
    by simp [State.keyRecordOk, State.reset], trivial⟩

end Sys2Proof.Proofs
end

section
-- The bodies are elaborated one after the other: side by side they do not fit in the check's memory.
set_option deprecated.oldSectionVars true
/-!
PROOFS. Non-interference: round-key words that no valid expansion covers are not observed (O57), and PEND is not (O39). A state with
another RAM, or another PEND, is written as an update, and each operation of the model commutes with it.
-/

namespace Sys2Proof.Machine

open Sys2Proof.Claims

/-! ## What the host cannot read -/

/-- `s` with other contents in what the host has no register for: the round-key RAM and PEND. -/
noncomputable def State.hide (r : Vector Word 60) (p : Option Pending) (s : State) : State := { s with rk := r, pend := p }

section Hidden

variable (s : State) (r : Vector Word 60) (p : Option Pending)

theorem State.raise_hide (e : ErrorCode) : (s.hide r p).raise e = (s.raise e).hide r p := by
  obtain ⟨h, he⟩ | ⟨h, he⟩ := s.raise_cases e
  · rw [he, State.raise_of_set (s.hide r p) e h]
  · rw [he, State.raise_of_clear (s.hide r p) e h]; rfl

theorem State.whenIdle_hide (f : State → State) (hf : f (s.hide r p) = (f s).hide r p) :
    (s.hide r p).whenIdle f = (s.whenIdle f).hide r p := by
  obtain ⟨hb, he⟩ | ⟨hb, he⟩ := s.whenIdle_cases f
  · rw [he, State.whenIdle_of_busy (s.hide r p) f hb, State.raise_hide]
  · rw [he, State.whenIdle_of_idle (s.hide r p) f hb, hf]

/-- A register write neither reads nor changes them. -/
theorem State.writeReg_hide (v : Word) (g : Reg) : (s.hide r p).writeReg v g = (s.writeReg v g).hide r p := by
  cases g with
  | id | rkdata | cmd => rfl
  | status => simp only [State.writeReg, State.acknowledge_eq]; rfl
  | ctrl => exact s.whenIdle_hide r p _ (by simp only [State.writeCtrl_eq]; rfl)
  | rkaddr | key k | data k => exact s.whenIdle_hide r p _ rfl

/-- What a command requires and captures is in the registers. -/
theorem precondition_hide (i : Instr) : precondition (s.hide r p) i = precondition s i := by
  cases i <;> rfl

theorem capture_hide (i : Instr) : capture (s.hide r p) i = capture s i := by
  cases i <;> rfl

end Hidden

/-! ## A machine with another round-key RAM -/

/-- `s` with the words `r` in the round-key RAM. -/
noncomputable def State.withRk (r : Vector Word 60) (s : State) : State := s.hide r s.pend

theorem State.withRk_eq (s : State) (r : Vector Word 60) : s.withRk r = s.hide r s.pend := rfl

/-- The RAM `r` agrees with that of `s` on the words of the expansion `s` holds, if it holds one. -/
def State.covers (s : State) (r : Vector Word 60) : Prop :=
  s.keyvalid = true → ∀ j < 4 * (s.knr.toNat + 1), rkWord s.rk j = rkWord r j

/-- The relation of rule R42, with the second state written as an update of the first. -/
theorem State.agreeOnKeys_iff {s t : State} : s.agreeOnKeys t ↔ ∃ r, t = s.withRk r ∧ s.covers r := by
  refine ⟨fun h => ⟨t.rk, h.1, h.2⟩, ?_⟩
  rintro ⟨r, rfl, hr⟩
  exact ⟨rfl, hr⟩

/-- What a host access does to the key record: the RAM stays, and the expansion held stays or is dropped. -/
def State.keyKeptOrDropped (s t : State) : Prop :=
  t.rk = s.rk ∧ (t.keyvalid = true → s.keyvalid = true ∧ t.knr = s.knr)

/-- An operation that commutes with another RAM, and keeps or drops the expansion, keeps agreement. -/
theorem State.covers.of_kept {s t : State} {r : Vector Word 60} (h : s.covers r) (hst : s.keyKeptOrDropped t) :
    t.covers r := by
  intro hv
  obtain ⟨hs, hknr⟩ := hst.2 hv
  rw [hst.1, hknr]
  exact h hs

section Commutes

variable (s : State) (r : Vector Word 60)

theorem State.raise_withRk (e : ErrorCode) : (s.withRk r).raise e = (s.raise e).withRk r := by
  rw [State.withRk_eq, State.raise_hide, State.withRk_eq, State.raise_pend]

theorem State.writeReg_withRk (v : Word) (g : Reg) : (s.withRk r).writeReg v g = (s.writeReg v g).withRk r := by
  rw [State.withRk_eq, State.writeReg_hide, State.withRk_eq, State.writeReg_pend]

theorem State.issue_withRk (pre : Option ErrorCode) (p : Pending) :
    (s.withRk r).issue pre p = (s.issue pre p).withRk r := by
  obtain ⟨hb, he⟩ | ⟨e, hb, rfl, he⟩ | ⟨hb, rfl, he⟩ := s.issue_cases pre p
  · rw [he, State.issue_of_busy (s.withRk r) _ _ hb, State.raise_withRk]
  · rw [he, State.issue_of_error (s.withRk r) e _ hb, State.raise_withRk]
  · rw [he, State.issue_of_accepted (s.withRk r) _ hb, State.accept_eq, State.accept_eq]; rfl

end Commutes

/-! ## What keeps or drops the expansion -/

theorem State.keyKeptOrDropped_refl (s : State) : s.keyKeptOrDropped s := ⟨rfl, fun h => ⟨h, rfl⟩⟩

theorem State.keyKeptOrDropped_raise (s : State) (e : ErrorCode) : s.keyKeptOrDropped (s.raise e) :=
  ⟨by simp, by simp⟩

theorem State.keyKeptOrDropped_whenIdle (s : State) (f : State → State) (hf : s.keyKeptOrDropped (f s)) :
    s.keyKeptOrDropped (s.whenIdle f) :=
  s.whenIdle_keeps f (s.keyKeptOrDropped ·) (s.keyKeptOrDropped_raise _) hf

theorem State.keyKeptOrDropped_writeReg (s : State) (v : Word) (g : Reg) : s.keyKeptOrDropped (s.writeReg v g) := by
  cases g with
  | id | rkdata | cmd => exact s.keyKeptOrDropped_refl
  | status =>
    rw [show s.writeReg v .status = s.acknowledge v from rfl, State.acknowledge_eq]
    exact ⟨rfl, fun h => ⟨h, rfl⟩⟩
  | ctrl =>
    refine s.keyKeptOrDropped_whenIdle _ ?_
    rw [State.writeCtrl_eq]
    by_cases hk : v.extractLsb' 0 2 = s.ksz <;> exact ⟨rfl, by simp [hk]⟩
  | key k => exact s.keyKeptOrDropped_whenIdle _ ⟨rfl, by simp⟩
  | rkaddr | data k => exact s.keyKeptOrDropped_whenIdle _ ⟨rfl, fun h => ⟨h, rfl⟩⟩

theorem State.keyKeptOrDropped_issue (s : State) (pre : Option ErrorCode) (p : Pending) :
    s.keyKeptOrDropped (s.issue pre p) := by
  obtain ⟨-, he⟩ | ⟨e, -, -, he⟩ | ⟨-, -, he⟩ := s.issue_cases pre p <;> rw [he]
  · exact s.keyKeptOrDropped_raise _
  · exact s.keyKeptOrDropped_raise _
  · rw [State.accept_eq]
    cases hd : p.dropsKey <;> exact ⟨rfl, by simp⟩

/-! ## What a completion and a read make of the RAM -/

/-- A round key of the expansion is the same in two RAMs that agree on it (rule R146). -/
theorem addRoundKey_congr {rk rk' : Vector Word 60} {nr i : Nat} (h : ∀ j < 4 * (nr + 1), rkWord rk j = rkWord rk' j)
    (hi : i ≤ nr) (S : Grid) : addRoundKey rk i S = addRoundKey rk' i S := by
  have h0 := h (4 * i) (by omega)
  have h1 := h (4 * i + 1) (by omega)
  have h2 := h (4 * i + 2) (by omega)
  have h3 := h (4 * i + 3) (by omega)
  simp only [addRoundKey, roundKey, h0, h1, h2, h3]

/-- A round of Cipher uses its own round key only. -/
theorem cipherRound_congr {rk rk' : Vector Word 60} {nr r : Nat} (h : ∀ j < 4 * (nr + 1), rkWord rk j = rkWord rk' j)
    (hr : r ≤ nr) (S : Grid) : cipherRound rk r S = cipherRound rk' r S :=
  addRoundKey_congr h hr _

/-- So does a step of InvCipher. -/
theorem invCipherRound_congr {rk rk' : Vector Word 60} {nr r : Nat} (h : ∀ j < 4 * (nr + 1), rkWord rk j = rkWord rk' j)
    (hr : r ≤ nr) (S : Grid) : invCipherRound rk r S = invCipherRound rk' r S :=
  congrArg invMixColumns (addRoundKey_congr h hr _)

/-- Rounds 1 to `n ≤ Nr` of Cipher use the round keys up to Nr only. -/
theorem cipherRounds_congr {rk rk' : Vector Word 60} {nr : Nat} (h : ∀ j < 4 * (nr + 1), rkWord rk j = rkWord rk' j) (n : Nat)
    (hn : n ≤ nr) (S : Grid) : cipherRounds rk n S = cipherRounds rk' n S := by
  induction n with
  | zero => rfl
  | succ n ih => exact (congrArg (cipherRound rk (n + 1)) (ih (by omega))).trans (cipherRound_congr h hn _)

/-- So do the steps `n ≤ Nr` down to 1 of InvCipher. -/
theorem invCipherRounds_congr {rk rk' : Vector Word 60} {nr : Nat} (h : ∀ j < 4 * (nr + 1), rkWord rk j = rkWord rk' j) (n : Nat)
    (hn : n ≤ nr) (S : Grid) : invCipherRounds rk n S = invCipherRounds rk' n S := by
  induction n generalizing S with
  | zero => rfl
  | succ n ih => exact (congrArg (invCipherRounds rk n) (invCipherRound_congr h hn S)).trans (ih (by omega) _)

/-- Cipher uses the round keys 0 to Nr only (rule R173). -/
theorem cipher_congr {rk rk' : Vector Word 60} {nr : Nat} (h : ∀ j < 4 * (nr + 1), rkWord rk j = rkWord rk' j) (S : Grid) :
    cipher rk nr S = cipher rk' nr S := by
  simp only [cipher, addRoundKey_congr h (Nat.zero_le nr), addRoundKey_congr h (Nat.le_refl nr),
    cipherRounds_congr h (nr - 1) (by omega)]

/-- InvCipher uses the round keys 0 to Nr only (rule R173). -/
theorem invCipher_congr {rk rk' : Vector Word 60} {nr : Nat} (h : ∀ j < 4 * (nr + 1), rkWord rk j = rkWord rk' j) (S : Grid) :
    invCipher rk nr S = invCipher rk' nr S := by
  simp only [invCipher, addRoundKey_congr h (Nat.zero_le nr), addRoundKey_congr h (Nat.le_refl nr),
    invCipherRounds_congr h (nr - 1) (by omega)]

/-- What a register reads as does not depend on words that no valid expansion covers (rule R35). -/
theorem State.regWord_withRk {s : State} {r : Vector Word 60} (h : s.covers r) (g : Reg) :
    (s.withRk r).regWord g = s.regWord g := by
  cases g with
  | rkdata => exact ite_congr rfl (fun hv => (h hv.1 _ hv.2).symm) fun _ => rfl
  | _ => rfl

/-- Both machines write the same block over their RAM. -/
theorem State.setBlock_complete_withRk {s : State} {r : Vector Word 60} {S S' : Grid} (h : S' = S) :
    ((s.withRk r).setBlock S').complete = (s.setBlock S).complete.withRk r :=
  h ▸ rfl

/-- The two machines complete a command in flight alike: EXPAND loads the same words over both RAMs, CLEAR zeroes both, and the
ciphers and ADDROUNDKEY use round keys of the expansion held only. -/
theorem State.Inv.complete_withRk {s : State} (h : s.Inv) {p : Pending} (hp : s.pend = some p) {r : Vector Word 60}
    (hr : s.covers r) : ∃ r', (writeResult (s.withRk r) p).complete = (writeResult s p).complete.withRk r' ∧
      (writeResult s p).complete.covers r' := by
  have hpend := h.pending
  rw [State.pendOk, hp] at hpend
  cases p with
  | expand k nk nr =>
    obtain ⟨-, hksz, -, -, rfl⟩ := hpend
    have hnr := nrOf_le s.ksz hksz
    refine ⟨((s.withRk r).loadKeys (keyExpansion k nk (nrOf s.ksz)) (nrOf s.ksz)).rk, rfl, fun _ j hj => ?_⟩
    have hj' : j < 4 * (nrOf s.ksz + 1) := by
      rwa [← toNat_loadKeys_knr (keyExpansion k nk (nrOf s.ksz)) _ s hnr]
    exact (rkWord_loadKeys _ _ s hnr j hj').trans (rkWord_loadKeys _ _ (s.withRk r) hnr j hj').symm
  | clear => exact ⟨Vector.replicate 60 0, rfl, fun _ _ _ => rfl⟩
  | encrypt blk nr =>
    obtain ⟨hv, -, rfl⟩ := hpend
    exact ⟨r, State.setBlock_complete_withRk (cipher_congr (hr hv) blk).symm, hr⟩
  | decrypt blk nr =>
    obtain ⟨hv, -, rfl⟩ := hpend
    exact ⟨r, State.setBlock_complete_withRk (invCipher_congr (hr hv) blk).symm, hr⟩
  | addRoundKey blk i =>
    obtain ⟨hv, -, hi⟩ := hpend
    exact ⟨r, State.setBlock_complete_withRk (addRoundKey_congr (hr hv) hi blk).symm, hr⟩
  | _ => exact ⟨r, rfl, hr⟩

/-! ## The step -/

/-- `s` and the machine with the RAM `r` take the same step, to states that agree again. -/
def State.stepsAlike (s : State) (r : Vector Word 60) : Prop :=
  ∃ s' r', step s = .next s' ∧ step (s.withRk r) = .next (s'.withRk r') ∧ s'.covers r'

/-- A completion of the command in flight. -/
theorem State.Inv.stepsAlike_completion {s : State} (h : s.Inv) {p : Pending} (hp : s.pend = some p) {r : Vector Word 60}
    (hr : s.covers r) {rest : List Event} (he : engineNext s rest) : s.stepsAlike r := by
  obtain ⟨r', heq, hr'⟩ := (h.turn .engine rest).complete_withRk hp (r := r) hr
  exact ⟨_, r', step_completion s rest p hp he, (step_completion (s.withRk r) rest p hp he).trans (congrArg _ heq), hr'⟩

/-- A register read. -/
theorem State.stepsAlike_read {s : State} {r : Vector Word 60} (hr : s.covers r) {g : Reg} {rest : List Event}
    (he : s.script = readOf g :: rest) : s.stepsAlike r := by
  have hu : (s.withRk r).unspecifiedRead g = s.unspecifiedRead g := by cases g <;> rfl
  cases hg : s.unspecifiedRead g with
  | true =>
    exact ⟨_, r, step_readOf_unspecified s rest g he hg, step_readOf_unspecified (s.withRk r) rest g he (hu.trans hg), hr⟩
  | false =>
    refine ⟨_, r, step_readOf s rest g he hg, ?_, hr⟩
    rw [step_readOf (s.withRk r) rest g he (hu.trans hg), State.regWord_withRk hr]
    rfl

/-- A register write, that of CMD among them. -/
theorem State.stepsAlike_write {s : State} {r : Vector Word 60} (hr : s.covers r) {g : Reg} {v : Word} {rest : List Event}
    (he : s.script = writeOf g v :: rest) : s.stepsAlike r := by
  by_cases hg : g = .cmd
  · subst hg
    cases hv : decode v with
    | ok i =>
      refine ⟨_, r, step_writeOf_cmd_issue s rest v i hv he, ?_,
        State.covers.of_kept (s := answered s rest (.okay none)) hr (State.keyKeptOrDropped_issue _ _ _)⟩
      rw [step_writeOf_cmd_issue (s.withRk r) rest v i hv he, State.withRk_eq, precondition_hide, capture_hide,
        ← State.withRk_eq, ← State.issue_withRk]
      rfl
    | error e =>
      refine ⟨_, r, step_writeOf_cmd_rejected s rest v e hv he, ?_,
        State.covers.of_kept (s := answered s rest (.okay none)) hr (State.keyKeptOrDropped_raise _ _)⟩
      rw [step_writeOf_cmd_rejected (s.withRk r) rest v e hv he, ← State.raise_withRk]
      rfl
  · refine ⟨_, r, step_writeOf s rest g v hg he, ?_,
      State.covers.of_kept (s := answered s rest (.okay none)) hr (State.keyKeptOrDropped_writeReg _ _ _)⟩
    rw [step_writeOf (s.withRk r) rest g v hg he, ← State.writeReg_withRk]
    rfl

/-- Every step of a machine of the invariant is the same with another RAM that covers its expansion. -/
theorem State.Inv.stepsAlike {s : State} (h : s.Inv) {r : Vector Word 60} (hr : s.covers r) : s.stepsAlike r := by
  have hcomplete : ∀ rest, engineNext s rest → s.pend ≠ none → s.stepsAlike r := fun rest he hp => by
    obtain ⟨p, hp⟩ := Option.ne_none_iff_exists'.mp hp
    exact h.stepsAlike_completion hp hr he
  rcases hs : s.script with _ | ⟨e, rest⟩
  · by_cases hp : s.pend = none
    · exact ⟨s, r, step_of_silent s hp hs, step_of_silent (s.withRk r) hp hs, hr⟩
    · exact hcomplete [] (.inr ⟨hs, rfl⟩) hp
  · cases e with
    | engineComplete =>
      by_cases hp : s.pend = none
      · exact ⟨_, r, step_of_completeIdle s rest hp hs, step_of_completeIdle (s.withRk r) rest hp hs, hr⟩
      · exact hcomplete rest (.inl hs) hp
    | engineWork => exact ⟨_, r, step_of_engineWork s rest hs, step_of_engineWork (s.withRk r) rest hs, hr⟩
    | reset =>
      exact ⟨_, (s.turn .host rest).resetNow.rk, step_of_reset s rest hs, step_of_reset (s.withRk r) rest hs,
        fun _ _ _ => rfl⟩
    | access a =>
      obtain ⟨bits, off, rfl, ht⟩ | ⟨bits, off, v, rfl, ht⟩ | ⟨g, ha⟩ | ⟨g, v, ha⟩ := access_cases a
      · exact ⟨_, r, step_of_unmappedRead s rest bits off ht hs, step_of_unmappedRead (s.withRk r) rest bits off ht hs, hr⟩
      · exact ⟨_, r, step_of_unmappedWrite s rest bits off v ht hs,
          step_of_unmappedWrite (s.withRk r) rest bits off v ht hs, hr⟩
      · exact State.stepsAlike_read hr (hs.trans (by rw [ha]))
      · exact State.stepsAlike_write hr (hs.trans (by rw [ha]))

end Sys2Proof.Machine

namespace Sys2Proof.Proofs

open Sys2Proof.Machine

/-- Settles O57: the second machine is the first with another RAM, every operation commutes with that, and what reads the RAM reads
words of the expansion held. -/
theorem unexpandedKeyWordsAreNeverObserved : Obligations.UnexpandedKeyWordsAreNeverObserved := by
  intro s t s' t' h hagree hs ht
  rw [State.agreeOnKeys_iff] at hagree
  obtain ⟨r, rfl, hr⟩ := hagree
  obtain ⟨u, r', hu, hut, hr'⟩ := h.stepsAlike hr
  obtain rfl : u = s' := Host.Outcome.next.inj (hu.symm.trans hs)
  obtain rfl : u.withRk r' = t' := Host.Outcome.next.inj (hut.symm.trans ht)
  exact ⟨⟨rfl, hr'⟩, rfl⟩

end Sys2Proof.Proofs
end

section
-- The bodies are elaborated one after the other: side by side they do not fit in the check's memory.
set_option deprecated.oldSectionVars true
/-!
PROOFS. The statements about single commands and their frames (O4, O18, O22, O25).
-/

namespace Sys2Proof.Proofs

open Sys2Proof.Machine Sys2Proof.Claims

/-- A word of the opcode table decodes as the decoder says it does. -/
theorem decode_tableWord {nbits w : Nat} {i : Instr} (h : decodeTableWord nbits w = some i) :
    decode (tableWord nbits w) = .ok i := by
  by_cases hw : w % 2 ^ nbits < 2 ^ 32
  · rw [decodeTableWord, if_pos hw] at h
    cases hd : decode (tableWord nbits w) with
    | ok j => rw [hd] at h; rw [Option.some.inj h]
    | error e => rw [hd] at h; cases h
  · rw [decodeTableWord, if_neg hw] at h; cases h

/-- Settles O4: the event is the CMD write of a word that decodes. -/
theorem stepRunsTheCommandWritten : Obligations.StepRunsTheCommandWritten :=
  ⟨fun s rest w i h hw => step_writeOf_cmd s rest w i hw h,
    fun s nbits w i h => step_writeOf_cmd (s.withFetchWord nbits w) s.script _ i (decode_tableWord h) rfl⟩

/-- Settles O18: BUSY is the first check of every command. -/
theorem busyEngineRejectsEveryCommand : Obligations.BusyEngineRejectsEveryCommand := by
  intro i s ha hb
  rw [exec_host i s ha, s.issue_of_busy _ _ hb, s.raise_eq_raised]

/-- Loading an expansion keeps the words of the RAM past it (rule R42). -/
theorem getElem_loadKeys_rk_of_le (w : List Word) (nr : Nat) (s : State) (j : Fin 60) (hj : 4 * (nr + 1) ≤ j.val) :
    (s.loadKeys w nr).rk[j] = s.rk[j] := by
  rw [State.loadKeys_rk, Fin.getElem_fin, Vector.getElem_ofFn, if_neg (Nat.not_lt.mpr hj)]

/-- Settles O22: the engine half completes the command in flight or does nothing, and each completion is written out. -/
theorem nopExpandClearFrame : Obligations.NopExpandClearFrame := by
  have same : ∀ s : State, sameModelFields s s := fun _ => ⟨rfl, rfl, rfl, rfl⟩
  refine fun s t ha => ⟨fun h => ?_, fun h => ?_, fun h => ?_⟩
  · obtain ⟨p, -, hi, rfl⟩ | rfl := exec_engine_cases ha h
    · rw [Pending.instr_eq_nop] at hi
      subst hi
      exact ⟨⟨rfl, rfl, rfl, rfl, rfl, rfl, rfl⟩, rfl, rfl, rfl, rfl, same s⟩
    · exact ⟨⟨rfl, rfl, rfl, rfl, rfl, rfl, rfl⟩, rfl, rfl, rfl, rfl, same _⟩
  · obtain ⟨p, hp, hi, rfl⟩ | rfl := exec_engine_cases ha h
    · rw [Pending.instr_eq_expand] at hi
      obtain ⟨k, nk, nr, rfl⟩ := hi
      refine ⟨rfl, rfl, rfl, rfl, rfl, rfl, rfl, rfl, same s, fun k' nk' nr' hp' j hj => ?_⟩
      obtain ⟨rfl, rfl, rfl⟩ : k = k' ∧ nk = nk' ∧ nr = nr' := by simpa using hp.symm.trans hp'
      exact getElem_loadKeys_rk_of_le _ nr s j hj
    · exact ⟨rfl, rfl, rfl, rfl, rfl, rfl, rfl, rfl, same _, fun _ _ _ _ _ _ => rfl⟩
  · obtain ⟨p, -, hi, rfl⟩ | rfl := exec_engine_cases ha h
    · rw [Pending.instr_eq_clear] at hi
      subst hi
      exact ⟨rfl, rfl, rfl, rfl, rfl, rfl, rfl, rfl, same s⟩
    · exact ⟨rfl, rfl, rfl, rfl, rfl, rfl, rfl, rfl, same _⟩

/-- An idle machine that passes the checks of a command runs it in two steps: the acceptance, and the completion from what the acceptance
captured. -/
theorem run_of_accepted {s : State} {rest : List Event} {w : Word} {i : Instr} (hw : decode w = .ok i) (hb : s.busy = false)
    (hpre : precondition s i = none) (hs : s.script = writeOf .cmd w :: .engineComplete :: rest) :
    Host.Core.run core 2 s = .next (writeResult
      (((answered s (.engineComplete :: rest) (.okay none)).accept (capture s i)).turn .engine rest) (capture s i)).complete := by
  have hissue := step_writeOf_cmd_issue s _ w i hw hs
  rw [hpre, State.issue_of_accepted (answered s _ _) _ hb] at hissue
  have hcomplete := step_completion ((answered s (.engineComplete :: rest) (.okay none)).accept (capture s i)) rest
    (capture s i) (by rw [State.accept_eq]) (.inl (by rw [State.accept_script]; rfl))
  exact (run_succ _ _ 1 hissue).trans ((run_succ _ _ 0 hcomplete).trans (run_zero _))

/-- The completion of an EXPAND over the key and the key size its acceptance captured leaves the machine holding their expansion. -/
theorem holdsExpansion_of_completion {s u : State} (hksz : u.ksz = s.ksz) (hkey : u.key = s.key) (hk : s.ksz ≠ 3) :
    (writeResult u (capture s .expand)).complete.holdsExpansion := by
  refine State.holdsExpansion_congr (s := u.loadKeys u.currentExpansion (nrOf u.ksz)) ?_ rfl rfl ?_
    (u.loadKeys_holdsExpansion (hksz ▸ hk))
  · simp only [writeResult, capture, State.complete_rk, State.loadKeys_rk, State.currentExpansion, State.keyOperand, hksz, hkey]
  · simp only [writeResult, capture, State.complete_knr, State.loadKeys_knr, hksz]

/-- Settles O25: EXPAND is accepted at a key size, and the expansion it loads is that of the key its acceptance captured. -/
theorem expandRunsFromWordToAValidKey : Obligations.ExpandRunsFromWordToAValidKey := by
  intro s rest hb _ hk hs
  have hpre : precondition s .expand = none := if_neg hk
  have hword : decode 0x00000001 = .ok .expand := by decide
  have hrun := run_of_accepted hword hb hpre hs
  rw [State.accept_eq] at hrun
  refine ⟨_, hrun, rfl, holdsExpansion_of_completion rfl rfl hk, ?_⟩
  simp [writeResult, capture, answered]

end Sys2Proof.Proofs
end

section
-- The bodies are elaborated one after the other: side by side they do not fit in the check's memory.
set_option deprecated.oldSectionVars true
/-!
PROOFS. The registers of the window: the bits of CTRL, STATUS and RKADDR, and what a read and a write of each register do (O10, O26 to
O29, O31 to O36, O40).
-/

namespace Sys2Proof.Machine

open Sys2Proof.Claims

/-! ## The bits of CTRL and STATUS -/

/-- The fields of CTRL (rule R22), for each value they can have. -/
theorem ctrlWord_fields : ∀ (ksz : BitVec 2) (ieDone ieErr : Bool),
    let w : Word := 0#26 ++ bit ieErr ++ bit ieDone ++ 0#2 ++ ksz
    w.extractLsb' 0 2 = ksz ∧ w.getLsbD 4 = ieDone ∧ w.getLsbD 5 = ieErr ∧ w &&& 0xFFFFFFCC = 0 := by
  decide

/-- A one-bit field. -/
theorem getLsbD_bit (b : Bool) (i : Nat) : (bit b).getLsbD i = (decide (i = 0) && b) := BitVec.getLsbD_ofBool b i

/-- Bit `i` of CTRL (rule R22). -/
theorem State.getLsbD_ctrlWord (s : State) (i : Nat) :
    s.ctrlWord.getLsbD i =
      if i < 2 then s.ksz.getLsbD i else if i = 4 then s.ieDone else if i = 5 then s.ieErr else false := by
  have h : s.ctrlWord.getLsbD i =
    (0#26 ++ bit s.ieErr ++ bit s.ieDone ++ 0#2 ++ s.ksz : BitVec (26 + 1 + 1 + 2 + 2)).getLsbD i := rfl
  rw [h]
  simp only [BitVec.getLsbD_append, getLsbD_bit, BitVec.getLsbD_zero]
  rcases Nat.lt_or_ge i 6 with h6 | h6
  · interval_cases i <;> rfl
  · obtain ⟨j, rfl⟩ := Nat.exists_eq_add_of_le' h6
    rfl

/-- The mask of the three fields of CTRL. -/
theorem getLsbD_ctrlMask (i : Nat) (hi : i < 32) : (0x00000033 : Word).getLsbD i = decide (i < 2 ∨ i = 4 ∨ i = 5) := by
  revert i; decide

/-- CTRL after a write of its fields reads the word written, under the mask of the three fields (rule R23). -/
theorem State.ctrlWord_setCtrl (s : State) (v : Word) : (s.setCtrl v).ctrlWord = v &&& 0x00000033 := by
  apply BitVec.eq_of_getLsbD_eq
  intro i hi
  rw [State.getLsbD_ctrlWord, BitVec.getLsbD_and, getLsbD_ctrlMask i hi, State.setCtrl_ksz, State.setCtrl_ieDone,
    State.setCtrl_ieErr, BitVec.getLsbD_extractLsb', Nat.zero_add]
  rcases Nat.lt_or_ge i 6 with h6 | h6
  · interval_cases i <;> cases v.getLsbD _ <;> rfl
  · obtain ⟨j, rfl⟩ := Nat.exists_eq_add_of_le' h6
    exact (Bool.and_false _).symm

/-- STATUS by its fields (rule R25). -/
theorem State.getLsbD_statusWord (s : State) (i : Nat) :
    s.statusWord.getLsbD i = (0#19 ++ bit s.irq ++ s.knr ++ s.errcode.code ++ bit s.keyvalid ++ bit s.errv ++ bit s.done ++
      bit s.busy : BitVec (19 + 1 + 4 + 4 + 1 + 1 + 1 + 1)).getLsbD i := rfl

/-- The one-bit fields of STATUS. -/
theorem State.statusWord_flags (s : State) :
    s.statusWord.getLsbD 0 = s.busy ∧ s.statusWord.getLsbD 1 = s.done ∧ s.statusWord.getLsbD 2 = s.errv ∧
      s.statusWord.getLsbD 3 = s.keyvalid ∧ s.statusWord.getLsbD 12 = s.irq := by
  simp only [State.getLsbD_statusWord, BitVec.getLsbD_append, Nat.reduceLT, Nat.reduceSub, reduceIte, getLsbD_bit,
    decide_true, Bool.true_and, and_self]

/-- ERRCODE in STATUS. -/
theorem State.statusWord_errcode (s : State) : s.statusWord.extractLsb' 4 4 = s.errcode.code := by
  apply BitVec.eq_of_getLsbD_eq
  intro i hi
  rw [BitVec.getLsbD_extractLsb', decide_eq_true hi, Bool.true_and, State.getLsbD_statusWord]
  simp only [BitVec.getLsbD_append]
  interval_cases i <;> rfl

/-- KNR in STATUS. -/
theorem State.statusWord_knr (s : State) : s.statusWord.extractLsb' 8 4 = s.knr := by
  apply BitVec.eq_of_getLsbD_eq
  intro i hi
  rw [BitVec.getLsbD_extractLsb', decide_eq_true hi, Bool.true_and, State.getLsbD_statusWord]
  simp only [BitVec.getLsbD_append]
  interval_cases i <;> rfl

/-- The mask of the reserved bits of STATUS starts at bit 13. -/
theorem getLsbD_statusReserved (i : Nat) (hi : i < 13) : (0xFFFFE000 : Word).getLsbD i = false := by
  revert i; decide

/-- The bits of STATUS from 13 up are 0. -/
theorem State.statusWord_reserved (s : State) : s.statusWord &&& 0xFFFFE000 = 0 := by
  apply BitVec.eq_of_getLsbD_eq
  intro i _
  rw [BitVec.getLsbD_and, BitVec.ofNat_eq_ofNat (i := 0), BitVec.getLsbD_zero]
  by_cases h : i < 13
  · rw [getLsbD_statusReserved i h, Bool.and_false]
  · obtain ⟨j, rfl⟩ := Nat.exists_eq_add_of_le' (Nat.not_lt.mp h)
    rw [State.getLsbD_statusWord]
    simp only [BitVec.getLsbD_append]
    exact congrArg (· && _) BitVec.getLsbD_zero

theorem State.regWord_rkaddr (s : State) : s.regWord .rkaddr = s.rkaddrWord := rfl

theorem State.regWord_rkdata (s : State) : s.regWord .rkdata = s.rkdataWord := rfl

/-- RKADDR is the index, widened (rule R34). -/
theorem State.rkaddrWord_eq (s : State) : s.rkaddrWord = s.idx.setWidth 32 := by
  apply BitVec.eq_of_getLsbD_eq
  intro i hi
  have h : s.rkaddrWord.getLsbD i = (0#26 ++ s.idx : BitVec (26 + 6)).getLsbD i := rfl
  rw [h, BitVec.getLsbD_append, BitVec.getLsbD_setWidth, decide_eq_true hi, Bool.true_and, BitVec.getLsbD_zero]
  split_ifs with hi6
  · rfl
  · exact (BitVec.getLsbD_of_ge s.idx i (Nat.not_lt.mp hi6)).symm

/-! ## A guarded write, as its step -/

/-- The write of a register that a busy engine protects: BUSY is recorded (rule R48). -/
theorem State.writeReg_of_busy (s : State) (v : Word) (r : Reg) (hb : s.busy = true) (hcmd : r ≠ .cmd) (hstatus : r ≠ .status)
    (hid : r ≠ .id) (hrkdata : r ≠ .rkdata) : s.writeReg v r = raised s .busy := by
  rw [← s.raise_eq_raised]
  cases r with
  | cmd | status | id | rkdata => contradiction
  | ctrl | rkaddr | key k | data k => exact s.whenIdle_of_busy _ hb

/-- Such a write while the engine is busy. -/
theorem step_writeOf_busy (s : State) (rest : List Event) (r : Reg) (v : Word) (h : s.script = writeOf r v :: rest)
    (hb : s.busy = true) (hcmd : r ≠ .cmd) (hstatus : r ≠ .status) (hid : r ≠ .id) (hrkdata : r ≠ .rkdata) :
    step s = .next (raised (answered s rest (.okay none)) .busy) := by
  rw [step_writeOf s rest r v hcmd h, State.writeReg_of_busy (answered s rest (.okay none)) v r hb hcmd hstatus hid hrkdata]

/-- A CMD write while the engine is busy, whatever the word: BUSY comes before ILLEGAL and before the command's own checks. -/
theorem step_writeOf_cmd_busy (s : State) (rest : List Event) (w : Word) (h : s.script = writeOf .cmd w :: rest)
    (hb : s.busy = true) : step s = .next (raised (answered s rest (.okay none)) .busy) := by
  rw [← State.raise_eq_raised]
  cases hw : decode w with
  | ok i => rw [step_writeOf_cmd_issue s rest w i hw h, State.issue_of_busy (answered s rest (.okay none)) _ _ hb]
  | error e => rw [step_writeOf_cmd_rejected s rest w e hw h, if_pos hb]

end Sys2Proof.Machine

namespace Sys2Proof.Proofs

open Sys2Proof.Machine Sys2Proof.Claims

/-- Settles O26. -/
theorem idIsAConstant : Obligations.IdIsAConstant :=
  ⟨fun s rest h => step_readOf s rest .id h rfl, fun s rest v h => step_writeOf s rest .id v (by simp) h, rfl, rfl, rfl⟩

/-- Settles O27: the fields by the bits of CTRL, the write by `writeCtrl_eq`. -/
theorem ctrlWriteStoresItsFields : Obligations.CtrlWriteStoresItsFields := by
  refine ⟨fun s rest h => step_readOf s rest .ctrl h rfl, fun s => ctrlWord_fields s.ksz s.ieDone s.ieErr,
    fun s rest v h => ⟨fun hb => ?_, fun hb => ?_⟩⟩
  · exact step_writeOf_busy s rest .ctrl v h hb (by simp) (by simp) (by simp) (by simp)
  · have hstep := step_writeOf s rest .ctrl v (by simp) h
    rw [State.writeReg, State.whenIdle_of_idle (answered s rest (.okay none)) _ hb] at hstep
    exact ⟨_, hstep, State.ctrlWord_setCtrl _ v, State.writeCtrl_eq _ v⟩

/-- Settles O28. -/
theorem statusFieldsStandInTheirBits : Obligations.StatusFieldsStandInTheirBits := by
  refine ⟨fun s rest h => step_readOf s rest .status h rfl, fun s => ?_⟩
  obtain ⟨hbusy, hdone, herrv, hkeyvalid, hirq⟩ := s.statusWord_flags
  exact ⟨hbusy, hdone, herrv, hkeyvalid, s.statusWord_errcode, s.statusWord_knr, hirq, s.statusWord_reserved⟩

/-- Settles O29. -/
theorem statusWriteClearsWhatItNames : Obligations.StatusWriteClearsWhatItNames := by
  intro s rest v h
  rw [step_writeOf s rest .status v (by simp) h, State.writeReg, State.acknowledge_eq]
  cases v.getLsbD 1 <;> cases v.getLsbD 2 <;> simp

/-- Settles O31. -/
theorem rkaddrHoldsASixBitIndex : Obligations.RkaddrHoldsASixBitIndex := by
  refine ⟨rfl, fun s rest h => ?_, fun s rest v h => ⟨fun hb => ?_, fun hb => ?_⟩⟩
  · rw [step_readOf s rest .rkaddr h rfl, State.regWord_rkaddr, State.rkaddrWord_eq]
  · exact step_writeOf_busy s rest .rkaddr v h hb (by simp) (by simp) (by simp) (by simp)
  · rw [step_writeOf s rest .rkaddr v (by simp) h, State.writeReg, State.whenIdle_of_idle (answered s rest (.okay none)) _ hb]
    rfl

/-- Settles O32. -/
theorem rkdataReadsTheExpansionOnly : Obligations.RkdataReadsTheExpansionOnly := by
  refine ⟨fun s rest j h hb hv hj hidx => ?_, fun s rest h hb hno => ?_, fun s rest v h => ?_⟩
  · rw [step_readOf s rest .rkdata h hb, State.regWord_rkdata, State.rkdataWord, if_pos ⟨hv, hidx⟩, ← hj,
      rkWord_eq_getElem s.rk j j.isLt]
    rfl
  · have hneg : ¬(s.keyvalid = true ∧ s.idx.toNat < 4 * (s.knr.toNat + 1)) := by
      rintro ⟨hv, hidx⟩
      rcases hno with hno | hno
      · simp [hv] at hno
      · omega
    rw [step_readOf s rest .rkdata h hb, State.regWord_rkdata, State.rkdataWord, if_neg hneg]
  · exact step_writeOf s rest .rkdata v (by simp) h

/-- Settles O33. -/
theorem keyWritesStoreAndDropTheExpansion : Obligations.KeyWritesStoreAndDropTheExpansion := by
  refine ⟨fun s rest k h hb => step_readOf s rest (.key k) h hb, fun s rest k v h hb => ?_⟩
  have hstep := step_writeOf s rest (.key k) v (by simp) h
  rw [State.writeReg, State.whenIdle_of_idle (answered s rest (.okay none)) _ hb] at hstep
  refine ⟨_, hstep, rfl, ?_, fun j hj => ?_⟩
  · simp
  · simp [Vector.getElem_set_ne, Fin.val_ne_of_ne hj.symm]

/-- Settles O34. -/
theorem dataWritesStoreAndKeepTheKey : Obligations.DataWritesStoreAndKeepTheKey := by
  refine ⟨fun s rest k h hb => step_readOf s rest (.data k) h hb, fun s rest k v h hb => ?_⟩
  have hstep := step_writeOf s rest (.data k) v (by simp) h
  rw [State.writeReg, State.whenIdle_of_idle (answered s rest (.okay none)) _ hb] at hstep
  refine ⟨_, hstep, rfl, ?_, fun j hj => ?_⟩
  · simp
  · simp [Vector.getElem_set_ne, Fin.val_ne_of_ne hj.symm]

/-- Settles O35. -/
theorem writesWhileBusyRecordBusyOnly : Obligations.WritesWhileBusyRecordBusyOnly := by
  refine fun s rest r v h hb => ⟨fun hstatus hid hrkdata => ?_, ?_, ?_⟩
  · by_cases hcmd : r = .cmd
    · subst hcmd
      exact step_writeOf_cmd_busy s rest v h hb
    · exact step_writeOf_busy s rest r v h hb hcmd hstatus hid hrkdata
  · rintro rfl
    exact step_writeOf s rest .status v (by simp) h
  · rintro (rfl | rfl)
    · exact step_writeOf s rest .id v (by simp) h
    · exact step_writeOf s rest .rkdata v (by simp) h

/-- Settles O36: the word is the free value of the draws, which the two states share. -/
theorem busyReadsRevealNothing : Obligations.BusyReadsRevealNothing := by
  have usual : ∀ s rest r, s.script = readOf r :: rest → r = .id ∨ r = .ctrl ∨ r = .status ∨ r = .cmd ∨ r = .rkaddr →
      step s = .next (answered s rest (.okay (some (s.regWord r)))) := by
    rintro s rest r h hr
    refine step_readOf s rest r h ?_
    rcases hr with rfl | rfl | rfl | rfl | rfl <;> rfl
  refine ⟨fun s t rest rest' r hs ht hsb htb hd hid hctrl hstatus hcmd hrkaddr => ?_, usual, fun s rest h => ?_⟩
  · have hu : ∀ u : State, u.busy = true → u.unspecifiedRead r = true := fun u hb => by
      cases r with
      | id | ctrl | status | cmd | rkaddr => contradiction
      | rkdata | key k | data k => exact hb
    refine ⟨s.freeWord, step_readOf_unspecified s rest r hs (hu s hsb), ?_⟩
    rw [step_readOf_unspecified t rest' r ht (hu t htb), State.freeWord, ← hd]
    rfl
  · exact usual s rest .cmd h (by simp)

/-- Settles O10: KSZ is a field of CTRL like the others, and 3 is the one value that EXPAND refuses. -/
theorem reservedKeySizeIsStoredAndRejectedByExpand : Obligations.ReservedKeySizeIsStoredAndRejectedByExpand := by
  refine ⟨⟨⟨rfl, rfl⟩, ⟨rfl, rfl⟩, rfl, rfl⟩, fun s rest v h hb hv => ?_, rfl, fun s ha hb hk => ?_⟩
  · obtain ⟨-, hfields, hwrite⟩ := ctrlWriteStoresItsFields
    obtain ⟨t, hstep, -, ht⟩ := (hwrite s rest v h).2 hb
    have hksz : t.ksz = 3 := by rw [ht]; exact hv
    exact ⟨t, hstep, hksz, (hfields t).1.trans hksz⟩
  · exact exec_of_refused .expand s .badKsz ha hb (if_pos hk)

/-- Settles O40. -/
theorem resetStateHasTheSpecValues : Obligations.ResetStateHasTheSpecValues :=
  ⟨rfl, rfl, rfl, rfl, fun k => by simp [State.reset], fun k => by simp [State.reset], rfl, rfl⟩

end Sys2Proof.Proofs
end

section
-- The bodies are elaborated one after the other: side by side they do not fit in the check's memory.
set_option deprecated.oldSectionVars true
/-!
PROOFS. PEND is invisible to every access (O39), and the block is packed by columns (O42).
-/

namespace Sys2Proof.Machine

open Sys2Proof.Claims

/-! ## PEND -/

/-- The host sees the same of a state when what it cannot read is other. -/
theorem sameHostSide_hide (s : State) (r : Vector Word 60) (p : Option Pending) : sameHostSide s (s.hide r p) :=
  ⟨rfl, rfl, rfl, rfl⟩

/-- So it does of the issue of a command. -/
theorem sameHostSide_issue_hide (s : State) (r : Vector Word 60) (q : Option Pending) (pre : Option ErrorCode) (p : Pending) :
    sameHostSide (s.issue pre p) ((s.hide r q).issue pre p) := by
  obtain ⟨hb, he⟩ | ⟨e, hb, rfl, he⟩ | ⟨hb, rfl, he⟩ := s.issue_cases pre p
  · rw [he, State.issue_of_busy (s.hide r q) _ _ hb, State.raise_hide]
    exact sameHostSide_hide _ r q
  · rw [he, State.issue_of_error (s.hide r q) e _ hb, State.raise_hide]
    exact sameHostSide_hide _ r q
  · rw [he, State.issue_of_accepted (s.hide r q) _ hb, State.accept_eq, State.accept_eq]
    exact ⟨rfl, rfl, rfl, rfl⟩

/-- A register read answers the same word whatever PEND holds. -/
theorem State.regWord_hide (s : State) (p : Option Pending) (g : Reg) : (s.hide s.rk p).regWord g = s.regWord g := by
  cases g <;> rfl

/-- `s` and the machine with the record `p` in PEND take steps that look the same to the host. -/
def State.looksAlike (s : State) (p : Option Pending) : Prop :=
  ∃ t u, step s = .next t ∧ step (s.hide s.rk p) = .next u ∧ sameHostSide t u

theorem State.looksAlike_read {s : State} {p : Option Pending} {g : Reg} {rest : List Event}
    (hs : s.script = readOf g :: rest) : s.looksAlike p := by
  have hu : (s.hide s.rk p).unspecifiedRead g = s.unspecifiedRead g := by cases g <;> rfl
  cases hg : s.unspecifiedRead g with
  | true =>
    exact ⟨_, _, step_readOf_unspecified s rest g hs hg,
      step_readOf_unspecified (s.hide s.rk p) rest g hs (hu.trans hg), rfl, rfl, rfl, rfl⟩
  | false =>
    refine ⟨_, _, step_readOf s rest g hs hg, step_readOf (s.hide s.rk p) rest g hs (hu.trans hg), ?_⟩
    rw [State.regWord_hide]
    exact ⟨rfl, rfl, rfl, rfl⟩

theorem State.looksAlike_write {s : State} {p : Option Pending} {g : Reg} {v : Word} {rest : List Event}
    (hs : s.script = writeOf g v :: rest) : s.looksAlike p := by
  have hans : answered (s.hide s.rk p) rest (.okay none) = (answered s rest (.okay none)).hide s.rk p := rfl
  by_cases hg : g = .cmd
  · subst hg
    cases hv : decode v with
    | ok i =>
      refine ⟨_, _, step_writeOf_cmd_issue s rest v i hv hs, step_writeOf_cmd_issue (s.hide s.rk p) rest v i hv hs, ?_⟩
      rw [precondition_hide, capture_hide, hans]
      exact sameHostSide_issue_hide _ _ _ _ _
    | error e =>
      refine ⟨_, _, step_writeOf_cmd_rejected s rest v e hv hs, step_writeOf_cmd_rejected (s.hide s.rk p) rest v e hv hs, ?_⟩
      rw [hans, State.raise_hide]
      exact sameHostSide_hide _ _ _
  · refine ⟨_, _, step_writeOf s rest g v hg hs, step_writeOf (s.hide s.rk p) rest g v hg hs, ?_⟩
    rw [hans, State.writeReg_hide]
    exact sameHostSide_hide _ _ _

/-! ## Bytes of a block -/

/-- A byte of a word, by shifting. -/
theorem extractLsb'_eq_setWidth (w : Word) (k : Nat) : w.extractLsb' k 8 = (w >>> k).setWidth 8 := by
  apply BitVec.eq_of_getLsbD_eq
  intro i hi
  rw [BitVec.getLsbD_extractLsb', BitVec.getLsbD_setWidth, BitVec.getLsbD_ushiftRight]

/-- Byte `r` of a word, from bits 31..24 down (rule R10). -/
theorem byte_bytes (w : Word) (r : Fin 4) : (bytes w).byte r = (w >>> (24 - 8 * r.val)).setWidth 8 := by
  fin_cases r <;> exact extractLsb'_eq_setWidth w _

/-- Column `c` of the state is the bytes of DATAc (rule R41). -/
theorem column_toGrid (d : Vector Word 4) (c : Fin 4) : (toGrid d).column c = bytes d[c] := by
  fin_cases c <;> rfl

/-- Writing back the state read from DATA0..3 writes what was there. -/
theorem fromGrid_toGrid (d : Vector Word 4) : fromGrid (toGrid d) = d := by
  apply Vector.ext
  intro k hk
  interval_cases k <;> exact word_bytes _

/-- Reading the state back from DATA0..3 reads what was written. -/
theorem toGrid_fromGrid (S : Grid) : toGrid (fromGrid S) = S := by
  simp [fromGrid, toGrid]

end Sys2Proof.Machine

namespace Sys2Proof.Proofs

open Sys2Proof.Machine Sys2Proof.Claims

/-- Settles O39: no access reads PEND, and what an access does is the same whatever PEND holds. -/
theorem pendIsInvisibleToEveryAccess : Obligations.PendIsInvisibleToEveryAccess := by
  intro s p a rest hs
  obtain ⟨bits, off, rfl, ht⟩ | ⟨bits, off, v, rfl, ht⟩ | ⟨g, ha⟩ | ⟨g, v, ha⟩ := access_cases a
  · exact ⟨_, _, step_of_unmappedRead s rest bits off ht hs, step_of_unmappedRead (s.hide s.rk p) rest bits off ht hs,
      rfl, rfl, rfl, rfl⟩
  · exact ⟨_, _, step_of_unmappedWrite s rest bits off v ht hs, step_of_unmappedWrite (s.hide s.rk p) rest bits off v ht hs,
      rfl, rfl, rfl, rfl⟩
  · exact State.looksAlike_read (hs.trans (by rw [ha]))
  · exact State.looksAlike_write (hs.trans (by rw [ha]))

/-- Settles O42: entry `r`, `c` is byte `r` of DATAc. -/
theorem blockPacksByColumns : Obligations.BlockPacksByColumns := by
  refine ⟨fun d r c => ?_, fromGrid_toGrid, toGrid_fromGrid⟩
  have hdiv : (r.val + 4 * c.val) / 4 = c.val := by omega
  have hmod : (r.val + 4 * c.val) % 4 = r.val := by omega
  rw [Grid.entry, column_toGrid, byte_bytes, blockByte, hdiv, hmod]
  simp [Vector.getD]

end Sys2Proof.Proofs
end

section
-- The bodies are elaborated one after the other: side by side they do not fit in the check's memory.
set_option deprecated.oldSectionVars true
/-!
PROOFS. What every step can and cannot move: BUSY and DONE (O58) and KEYVALID (O59) move in the named events only.
The check order of a CMD write is tied to the commands' own preconditions on the way.
-/

namespace Sys2Proof.Machine

open Sys2Proof.Claims

/-! ## The word of a command, and its checks -/

/-- A word is its three fields side by side (rule R80). -/
theorem word_eq_fields (w : Word) : w = rsvField w ++ rkiField w ++ opcField w := by
  have hhigh : rsvField w ++ rkiField w = w.extractLsb' 8 (20 + 4) :=
    BitVec.extractLsb'_append_extractLsb'_eq_extractLsb' rfl
  have hall : w.extractLsb' 8 (20 + 4) ++ opcField w = w.extractLsb' 0 (20 + 4 + 8) :=
    BitVec.extractLsb'_append_extractLsb'_eq_extractLsb' rfl
  rw [hhigh, hall, BitVec.extractLsb'_eq_self]

/-- A command without an operand decodes where RKI is 0, to itself. -/
theorem withoutRki_eq_ok {rki : BitVec 4} {i j : Instr} (h : withoutRki rki i = .ok j) : rki = 0 ∧ i = j := by
  unfold withoutRki at h
  split at h
  · exact ⟨‹_›, Except.ok.inj h⟩
  · simp at h

/-- An opcode decodes to the command it is the opcode of, with the RKI of that command. -/
theorem decodeOpcode_eq_ok {opc : Byte} {rki : BitVec 4} {i : Instr} (h : decodeOpcode opc rki = .ok i) :
    opc = i.opcode ∧ rki = i.rki := by
  have hopc : ∀ n : Nat, opc.toNat = n → opc = BitVec.ofNat 8 n := fun n hn => by
    rw [← hn, BitVec.ofNat_toNat, BitVec.setWidth_eq]
  unfold decodeOpcode at h
  split at h
  case h_12 h' => cases h; exact ⟨hopc _ h', rfl⟩
  case h_13 => simp at h
  all_goals
    obtain ⟨hrki, rfl⟩ := withoutRki_eq_ok h
    exact ⟨hopc _ ‹_›, hrki⟩

/-- A word that decodes is the word of its command (rule R88). -/
theorem eq_encode_of_decode {w : Word} {i : Instr} (h : decode w = .ok i) : w = encode i := by
  unfold decode at h
  split at h
  · simp at h
  · next hrsv =>
    obtain ⟨hopc, hrki⟩ := decodeOpcode_eq_ok h
    rw [word_eq_fields w, not_not.mp hrsv, hopc, hrki]
    rfl

/-- The word of ADDROUNDKEY holds the index in bits 11..8 over the opcode 0x16. -/
theorem encode_addRoundKey (rki : BitVec 4) :
    encode (.addRoundKey rki) &&& 0xFF#32 = 0x16#32 ∧ (encode (.addRoundKey rki)).toNat / 256 % 16 = rki.toNat ∧
      encode (.addRoundKey rki) ≠ 0x01#32 := by
  revert rki; decide

/-- The word of every command is well-formed. -/
theorem wordWellFormed_encode (i : Instr) : wordWellFormed (encode i) = true := by
  cases i with
  | addRoundKey rki => exact (Laws.EncodedFields.addRoundKey rki).1
  | _ => rfl

/-- With an idle engine, the first error of the check order is that of the command's own precondition (rules R86 and R205). -/
theorem firstError_encode (s : State) (i : Instr) (hb : s.busy = false) : firstError s (encode i) = precondition s i := by
  unfold firstError
  rw [if_neg (by simp [hb]), if_neg (by simp [wordWellFormed_encode])]
  cases i with
  | addRoundKey rki =>
    obtain ⟨hopc, hrki, hne⟩ := encode_addRoundKey rki
    cases hv : s.keyvalid <;> simp [precondition_addRoundKey, hopc, hrki, hne, hv, BitVec.lt_def]
  | expand => exact if_congr (and_iff_right rfl) rfl rfl
  | encrypt | decrypt =>
    change _ = if s.keyvalid = true then none else some ErrorCode.noKey
    cases s.keyvalid <;> rfl
  | _ => rfl

/-- A CMD write that starts a command passed every check of it. -/
theorem firstError_eq_none {s : State} {w : Word} {i : Instr} (hw : decode w = .ok i) (hb : s.busy = false)
    (hpre : precondition s i = none) : firstError s w = none := by
  rw [eq_encode_of_decode hw, firstError_encode s i hb, hpre]

/-! ## What moves a flag -/

/-- A register write changes DONE only by acknowledging it. -/
theorem State.writeReg_done (s : State) (v : Word) (r : Reg) :
    (s.writeReg v r).done = s.done ∨ (r = .status ∧ v.getLsbD 1 = true ∧ (s.writeReg v r).done = false) := by
  cases r with
  | id | rkdata | cmd => exact .inl rfl
  | status =>
    rw [State.writeReg, State.acknowledge_eq]
    cases v.getLsbD 1 <;> simp
  | ctrl => exact .inl (s.whenIdle_keeps _ (fun t => t.done = s.done) (by simp) (by simp [State.writeCtrl_eq]))
  | rkaddr | key k | data k => exact .inl (s.whenIdle_keeps _ (fun t => t.done = s.done) (by simp) rfl)

/-- A register write changes KEYVALID only by dropping the key, with KEYk or a new KSZ, and only while idle. -/
theorem State.writeReg_keyvalid (s : State) (v : Word) (r : Reg) :
    (s.writeReg v r).keyvalid = s.keyvalid ∨
    (s.busy = false ∧ (s.writeReg v r).keyvalid = false ∧
      ((∃ k, r = .key k) ∨ (r = .ctrl ∧ v.extractLsb' 0 2 ≠ s.ksz))) := by
  cases r with
  | id | rkdata | cmd => exact .inl rfl
  | status => exact .inl (by rw [State.writeReg, State.acknowledge_eq])
  | ctrl =>
    rw [State.writeReg]
    obtain ⟨-, he⟩ | ⟨hb, he⟩ := s.whenIdle_cases (State.writeCtrl v)
    · exact .inl (by rw [he, State.raise_keyvalid])
    · rw [he, State.writeCtrl_eq]
      by_cases hk : v.extractLsb' 0 2 = s.ksz <;> simp [hk, hb]
  | rkaddr | data k => exact .inl (s.whenIdle_keeps _ (fun t => t.keyvalid = s.keyvalid) (by simp) rfl)
  | key k =>
    rw [State.writeReg]
    obtain ⟨-, he⟩ | ⟨hb, he⟩ := s.whenIdle_cases (State.writeKey k v)
    · exact .inl (by rw [he, State.raise_keyvalid])
    · exact .inr ⟨hb, by rw [he]; rfl, .inl ⟨k, rfl⟩⟩

/-- A completion changes KEYVALID only by loading an expansion. -/
theorem writeResult_keyvalid (s : State) (p : Pending) :
    (writeResult s p).keyvalid = s.keyvalid ∨ ((writeResult s p).keyvalid = true ∧ ∃ k nk nr, p = .expand k nk nr) := by
  cases p with
  | expand k nk nr => exact .inr ⟨rfl, k, nk, nr, rfl⟩
  | _ => exact .inl rfl

/-- Issuing a command moves BUSY and DONE, and drops KEYVALID, only in an acceptance. -/
theorem State.issue_flags (s : State) (pre : Option ErrorCode) (p : Pending) :
    ((s.issue pre p).busy = s.busy ∧ (s.issue pre p).done = s.done ∧ (s.issue pre p).keyvalid = s.keyvalid) ∨
    (s.busy = false ∧ pre = none ∧ (s.issue pre p).busy = true ∧ (s.issue pre p).done = false ∧
      (s.issue pre p).keyvalid = (s.keyvalid && !p.dropsKey)) := by
  obtain ⟨-, he⟩ | ⟨e, -, -, he⟩ | ⟨hb, hpre, he⟩ := s.issue_cases pre p
  · exact .inl (by simp [he])
  · exact .inl (by simp [he])
  · exact .inr ⟨hb, hpre, by simp [he, State.accept_eq]⟩

/-- A flag is not both 0 and 1. -/
theorem flag_absurd {b : Bool} {P : Prop} (h0 : b = false) (h1 : b = true) : P :=
  absurd (h0.symm.trans h1) Bool.false_ne_true

/-- A flag that is as it was has not risen. -/
theorem not_rises {a b : Bool} {P : Prop} (h : b = a) (ha : a = false) (hb : b = true) : P :=
  flag_absurd (h.trans ha) hb

/-- Nor has it fallen. -/
theorem not_falls {a b : Bool} {P : Prop} (h : b = a) (ha : a = true) (hb : b = false) : P :=
  flag_absurd hb (h.trans ha)

/-- What one step does to BUSY, DONE and KEYVALID: a completion, a reset, an acceptance and a register write are the only steps that can
move one. -/
theorem step_flags {s t : State} (h : step s = .next t) :
    (∃ rest p, engineNext s rest ∧ s.pend = some p ∧ t = (writeResult (s.turn .engine rest) p).complete) ∨
    (∃ rest, s.script = .reset :: rest ∧ t = (s.turn .host rest).resetNow) ∨
    (∃ w rest i, s.script = writeOf .cmd w :: rest ∧ decode w = .ok i ∧ firstError s w = none ∧ s.busy = false ∧
      t.busy = true ∧ t.done = false ∧ t.keyvalid = (s.keyvalid && !(capture s i).dropsKey)) ∨
    (∃ v rest r, s.script = writeOf r v :: rest ∧ t = (answered s rest (.okay none)).writeReg v r) ∨
    (t.busy = s.busy ∧ t.done = s.done ∧ t.keyvalid = s.keyvalid) := by
  obtain ⟨-, -, he⟩ | ⟨rest, p, hs, hp, he⟩ | ⟨rest, -, he⟩ | ⟨rest, hs, he⟩ | ⟨rest, -, d, -, he⟩ | ⟨rest, -, r, -, -, he⟩ |
    ⟨rest, off, v, r, hs, hoff, -, he⟩ | ⟨rest, -, v, e, -, -, -, he⟩ | ⟨rest, off, w, i, hs, hoff, hw, he⟩ := step_cases s <;>
    obtain rfl : _ = t := Host.Outcome.next.inj (he.symm.trans h)
  · exact .inr (.inr (.inr (.inr ⟨rfl, rfl, rfl⟩)))
  · exact .inl ⟨rest, p, hs, hp, rfl⟩
  · exact .inr (.inr (.inr (.inr ⟨rfl, rfl, rfl⟩)))
  · exact .inr (.inl ⟨rest, hs, rfl⟩)
  · exact .inr (.inr (.inr (.inr ⟨rfl, rfl, rfl⟩)))
  · exact .inr (.inr (.inr (.inr (by simp))))
  · rw [regAt_eq_some] at hoff
    exact .inr (.inr (.inr (.inl ⟨v, rest, r, by rw [hs, hoff]; rfl, rfl⟩)))
  · exact .inr (.inr (.inr (.inr (by simp))))
  · rw [regAt_eq_some] at hoff
    obtain hsame | ⟨hb, hpre, hflags⟩ := State.issue_flags ((s.turn .host rest).respond (.okay none)) (precondition s i) (capture s i)
    · exact .inr (.inr (.inr (.inr hsame)))
    · exact .inr (.inr (.inl ⟨w, rest, i, by rw [hs, hoff]; rfl, hw, firstError_eq_none hw hb hpre, hb, hflags⟩))

end Sys2Proof.Machine

namespace Sys2Proof.Proofs

open Sys2Proof.Machine Sys2Proof.Claims

/-- Settles O58: of the steps that can move a flag, each moves BUSY and DONE as the rules name. -/
theorem onlyTheNamedEventsMoveBusyAndDone : Obligations.OnlyTheNamedEventsMoveBusyAndDone := by
  intro s t h
  obtain ⟨rest, p, he, hp, rfl⟩ | ⟨rest, hs, rfl⟩ | ⟨w, rest, i, hs, -, herr, -, htb, htd, -⟩ | ⟨v, rest, r, hs, rfl⟩ |
    ⟨hb, hd, -⟩ := step_flags h
  · exact ⟨fun _ => flag_absurd rfl, fun _ _ => .inl ⟨rest, p, he, hp⟩, fun _ _ => ⟨rest, p, he, hp⟩,
      fun _ hd => flag_absurd hd rfl⟩
  · exact ⟨fun _ => flag_absurd rfl, fun _ _ => .inr ⟨rest, hs⟩, fun _ => flag_absurd rfl, fun _ _ => .inr (.inr ⟨rest, hs⟩)⟩
  · exact ⟨fun _ _ => ⟨w, rest, hs, herr⟩, fun _ hb => flag_absurd hb htb, fun _ => flag_absurd htd,
      fun _ _ => .inl ⟨w, rest, hs, herr⟩⟩
  · have hb := State.writeReg_busy (answered s rest (.okay none)) v r
    obtain hd | ⟨rfl, hv, hd⟩ := (answered s rest (.okay none)).writeReg_done v r
    · exact ⟨not_rises hb, not_falls hb, not_rises hd, not_falls hd⟩
    · exact ⟨not_rises hb, not_falls hb, fun _ => flag_absurd hd, fun _ _ => .inr (.inl ⟨v, rest, hs, hv⟩)⟩
  · exact ⟨not_rises hb, not_falls hb, not_rises hd, not_falls hd⟩

/-- Settles O59: of the steps that can move a flag, each moves KEYVALID as the rules name. -/
theorem onlyTheNamedEventsMoveKeyvalid : Obligations.OnlyTheNamedEventsMoveKeyvalid := by
  intro s t h
  obtain ⟨rest, p, he, hp, rfl⟩ | ⟨rest, hs, rfl⟩ | ⟨w, rest, i, hs, hw, herr, -, -, -, hk⟩ | ⟨v, rest, r, hs, rfl⟩ |
    ⟨-, -, hk⟩ := step_flags h
  · obtain hk | ⟨hk, k, nk, nr, rfl⟩ := writeResult_keyvalid (s.turn .engine rest) p
    · exact ⟨not_rises hk, not_falls hk⟩
    · exact ⟨fun _ _ => ⟨rest, k, nk, nr, he, hp⟩, fun _ hk' => flag_absurd hk' hk⟩
  · exact ⟨fun _ => flag_absurd rfl, fun _ _ => .inr (.inr (.inr ⟨rest, hs⟩))⟩
  · refine ⟨fun hv ht => by simp [hk, hv] at ht, fun hv ht => .inl ⟨w, rest, hs, ?_, herr⟩⟩
    have hi : i = .expand ∨ i = .clear := by simpa [hv, ht, capture_dropsKey, or_iff_not_imp_left] using hk
    rw [eq_encode_of_decode hw]
    rcases hi with rfl | rfl
    · exact .inl rfl
    · exact .inr rfl
  · obtain hk | ⟨hb, hk, hr⟩ := (answered s rest (.okay none)).writeReg_keyvalid v r
    · exact ⟨not_rises hk, not_falls hk⟩
    · refine ⟨fun _ => flag_absurd hk, fun _ _ => ?_⟩
      obtain ⟨k, rfl⟩ | ⟨rfl, hksz⟩ := hr
      · exact .inr (.inl ⟨k, v, rest, hs, hb⟩)
      · exact .inr (.inr (.inl ⟨v, rest, hs, hb, hksz⟩))
  · exact ⟨not_rises hk, not_falls hk⟩

end Sys2Proof.Proofs
end

section
-- The bodies are elaborated one after the other: side by side they do not fit in the check's memory.
set_option deprecated.oldSectionVars true
/-!
PROOFS. Bus accesses (O37, O38), and how runs go on: the engine's step (O5), no step stops the machine (O6), and a command in flight
reaches its completion (O60).
-/

namespace Sys2Proof.Machine

open Sys2Proof.Claims

/-! ## Accesses by width and offset -/

/-- A register's offset is none of the bad ones of rule R63. -/
theorem Reg.offset_not_bad (r : Reg) :
    ¬ (r.offset = 0x18 ∨ r.offset = 0x1C ∨ 0x50 ≤ r.offset.toNat ∨ r.offset.toNat % 4 ≠ 0) := by
  cases r with
  | key k => revert k; decide
  | data k => revert k; decide
  | _ => decide

/-- Of the twenty words of the window below 0x50, all but words 6 and 7 are registers (rule R20). -/
theorem regAt_isSome_of_slot :
    ∀ k : Fin 20, k = 6 ∨ k = 7 ∨ (regAt (BitVec.ofNat 8 (4 * k))).isSome = true := by
  decide

/-- The offsets that hold no register: the reserved ones and those not a multiple of 4 (rule R63). -/
theorem regAt_eq_none_iff (off : BitVec 8) :
    regAt off = none ↔ off = 0x18 ∨ off = 0x1C ∨ 0x50 ≤ off.toNat ∨ off.toNat % 4 ≠ 0 := by
  refine ⟨fun hnone => ?_, fun hbad => ?_⟩
  · by_contra! hgood
    obtain ⟨h18, h1C, hlt, hdiv⟩ := hgood
    obtain ⟨k, hk⟩ : ∃ k : Fin 20, off = BitVec.ofNat 8 (4 * k) :=
      ⟨⟨off.toNat / 4, Nat.div_lt_of_lt_mul hlt⟩, by
        rw [Nat.mul_div_cancel' (Nat.dvd_of_mod_eq_zero hdiv), BitVec.ofNat_toNat, BitVec.setWidth_eq]⟩
    obtain rfl | rfl | hsome := regAt_isSome_of_slot k
    · exact h18 hk
    · exact h1C hk
    · simp [← hk, hnone] at hsome
  · refine Option.eq_none_iff_forall_ne_some.mpr fun r hr => ?_
    rw [regAt_eq_some] at hr
    rw [hr] at hbad
    exact r.offset_not_bad hbad

/-- The accesses that reach no register (rule R63). -/
theorem target_eq_none_iff (bits : Nat) (off : BitVec 8) :
    target bits off = none ↔ off = 0x18 ∨ off = 0x1C ∨ 0x50 ≤ off.toNat ∨ bits ≠ 32 ∨ off.toNat % 4 ≠ 0 := by
  by_cases hb : bits = 32
  · rw [target, if_pos hb, regAt_eq_none_iff]
    simp only [hb, ne_eq, not_true_eq_false, false_or]
  · exact iff_of_true (if_neg hb) (.inr (.inr (.inr (.inl hb))))

/-- An access reaches a register by the 32-bit access at its offset only. -/
theorem target_eq_some_iff_offset {bits : Nat} {off : BitVec 8} {r : Reg} :
    target bits off = some r ↔ bits = 32 ∧ off = r.offset := by
  rw [target_eq_some, regAt_eq_some]

/-- The step of a read that reaches a register: OKAY with some word, and at most a draw besides. -/
theorem step_readOf_okay (s : State) (rest : List Event) (r : Reg) (h : s.script = readOf r :: rest) :
    ∃ w n, step s = .next { answered s rest (.okay (some w)) with draws := n } := by
  cases hr : s.unspecifiedRead r with
  | true => exact ⟨_, _, step_readOf_unspecified s rest r h hr⟩
  | false => exact ⟨_, s.draws, step_readOf s rest r h hr⟩

/-- The step of a read of any width at any offset, by whether it reaches a register. -/
theorem step_of_read_cases (s : State) (rest : List Event) (bits : Nat) (off : BitVec 8)
    (h : s.script = .access (.read bits off) :: rest) :
    (target bits off = none ∧ step s = .next (answered s rest (.busError (some 0)))) ∨
    (target bits off ≠ none ∧ ∃ w n, step s = .next { answered s rest (.okay (some w)) with draws := n }) := by
  cases ht : target bits off with
  | none => exact .inl ⟨rfl, step_of_unmappedRead s rest bits off ht h⟩
  | some r =>
    obtain ⟨rfl, rfl⟩ := target_eq_some_iff_offset.mp ht
    exact .inr ⟨Option.some_ne_none r, step_readOf_okay s rest r h⟩

/-- The step of a write that reaches a register: OKAY, whatever the write or the command does. -/
theorem step_writeOf_okay (s : State) (rest : List Event) (r : Reg) (v : Word) (h : s.script = writeOf r v :: rest) :
    ∃ t, step s = .next t ∧ t.resp = some (.okay none) := by
  by_cases hr : r = .cmd
  · subst hr
    cases hv : decode v with
    | ok i => exact ⟨_, step_writeOf_cmd_issue s rest v i hv h, State.issue_resp _ _ _⟩
    | error e => exact ⟨_, step_writeOf_cmd_rejected s rest v e hv h, State.raise_resp _ _⟩
  · exact ⟨_, step_writeOf s rest r v hr h, State.writeReg_resp _ _ _⟩

/-- The step of a write of any width at any offset, by whether it reaches a register. -/
theorem step_of_write_cases (s : State) (rest : List Event) (bits : Nat) (off : BitVec 8) (v : Word)
    (h : s.script = .access (.write bits off v) :: rest) :
    (target bits off = none ∧ step s = .next (answered s rest (.busError none))) ∨
    (target bits off ≠ none ∧ ∃ t, step s = .next t ∧ t.resp = some (.okay none)) := by
  cases ht : target bits off with
  | none => exact .inl ⟨rfl, step_of_unmappedWrite s rest bits off v ht h⟩
  | some r =>
    obtain ⟨rfl, rfl⟩ := target_eq_some_iff_offset.mp ht
    exact .inr ⟨Option.some_ne_none r, step_writeOf_okay s rest r v h⟩

/-! ## A command in flight -/

/-- Every step answers a next state: each of the things a step can do is one. -/
theorem State.steps_of_any (s : State) : s.steps := by
  obtain ⟨-, -, he⟩ | ⟨_, _, -, -, he⟩ | ⟨_, -, he⟩ | ⟨_, -, he⟩ | ⟨_, _, _, -, he⟩ | ⟨_, _, _, -, -, he⟩ |
    ⟨_, _, _, _, -, -, -, he⟩ | ⟨_, _, _, _, -, -, -, he⟩ | ⟨_, _, _, _, -, -, -, he⟩ := step_cases s <;>
    exact ⟨_, he⟩

/-- With a command in flight the machine of the invariant is busy (rule R43). -/
theorem State.Inv.busy_of_pend {s : State} (h : s.Inv) {p : Pending} (hp : s.pend = some p) : s.busy = true :=
  h.handshake.1.mpr (by simp [hp])

/-- With no command in flight it is idle (rule R43). -/
theorem State.Inv.busy_of_pend_none {s : State} (h : s.Inv) (hp : s.pend = none) : s.busy = false :=
  Bool.eq_false_iff.mpr fun hb => h.handshake.1.mp hb hp

/-- A command in flight stays in flight in every step but its completion and a reset (rules R48 and R176). -/
theorem pend_of_step {s t : State} (h : s.Inv) {p : Pending} (hp : s.pend = some p) (hst : step s = .next t) :
    (∃ rest, engineNext s rest) ∨ (∃ rest, s.script = .reset :: rest) ∨ t.pend = some p := by
  have kept : ∀ {u : State}, step s = .next u → u.pend = some p → t.pend = some p := fun he hu =>
    Host.Outcome.next.inj (he.symm.trans hst) ▸ hu
  obtain ⟨-, hn, -⟩ | ⟨rest, -, he, -, -⟩ | ⟨rest, -, he⟩ | ⟨rest, hs, -⟩ | ⟨rest, -, d, -, he⟩ | ⟨rest, -, r, -, -, he⟩ |
    ⟨rest, -, v, r, -, -, -, he⟩ | ⟨rest, -, v, e, -, -, -, he⟩ | ⟨rest, -, v, i, -, -, -, he⟩ := step_cases s
  · simp [hp] at hn
  · exact .inl ⟨rest, he⟩
  · exact .inr (.inr (kept he hp))
  · exact .inr (.inl ⟨rest, hs⟩)
  · exact .inr (.inr (kept he hp))
  · exact .inr (.inr (kept he ((State.readReg_pend _ r).trans hp)))
  · exact .inr (.inr (kept he ((State.writeReg_pend _ v r).trans hp)))
  · exact .inr (.inr (kept he ((State.raise_pend _ _).trans hp)))
  · rw [State.issue_of_busy ((s.turn .host rest).respond (.okay none)) _ _ (h.busy_of_pend hp)] at he
    exact .inr (.inr (kept he ((State.raise_pend _ _).trans hp)))

/-- A command in flight, with no reset to come, reaches its completion step within the events to come. -/
theorem State.Inv.reaches_completion {s : State} (h : s.Inv) {p : Pending} (hp : s.pend = some p) (hr : .reset ∉ s.script) :
    ∃ n ≤ s.script.length, ∃ u rest, Host.Core.run core n s = .next u ∧ u.pend = some p ∧ engineNext u rest := by
  induction hs : s.script generalizing s with
  | nil => exact ⟨0, Nat.le_refl 0, s, [], run_zero s, hp, .inr ⟨hs, rfl⟩⟩
  | cons e evs ih =>
    obtain ⟨t, hst⟩ := s.steps_of_any
    obtain ⟨rest, hnext⟩ | ⟨rest, hreset⟩ | hpt := pend_of_step h hp hst
    · exact ⟨0, Nat.zero_le _, s, rest, run_zero s, hp, hnext⟩
    · simp [hreset] at hr
    · have hts : t.script = evs := by rw [step_script s t hst, hs, List.tail_cons]
      have hrt : .reset ∉ t.script := fun hm => hr (hs ▸ List.mem_cons_of_mem e (hts ▸ hm))
      obtain ⟨n, hn, u, rest, hrun, hu⟩ := ih (h.step hst) hpt hrt hts
      exact ⟨n + 1, Nat.succ_le_succ hn, u, rest, (run_succ s t n hst).trans hrun, hu⟩

/-- When the schedule has ended, one step leaves no command in flight. -/
theorem pend_none_of_step_of_ended {s t : State} (hs : s.script = []) (hst : step s = .next t) : t.pend = none := by
  cases hp : s.pend with
  | none =>
    obtain rfl : s = t := Host.Outcome.next.inj ((step_of_silent s hp hs).symm.trans hst)
    exact hp
  | some p =>
    obtain rfl : _ = t := Host.Outcome.next.inj ((step_completion s [] p hp (.inr ⟨hs, rfl⟩)).symm.trans hst)
    rfl

/-- One step more than there are events ends with no command in flight. -/
theorem State.Inv.run_to_rest {s : State} (h : s.Inv) :
    ∃ t, Host.Core.run core (s.script.length + 1) s = .next t ∧ t.script = [] ∧ t.pend = none ∧ t.busy = false := by
  induction hs : s.script generalizing s with
  | nil =>
    obtain ⟨t, hst⟩ := s.steps_of_any
    have hpt := pend_none_of_step_of_ended hs hst
    exact ⟨t, (run_succ s t 0 hst).trans (run_zero t), by rw [step_script s t hst, hs, List.tail_nil], hpt,
      (h.step hst).busy_of_pend_none hpt⟩
  | cons e evs ih =>
    obtain ⟨t, hst⟩ := s.steps_of_any
    obtain ⟨u, hrun, hu⟩ := ih (h.step hst) (by rw [step_script s t hst, hs, List.tail_cons])
    exact ⟨u, (run_succ s t _ hst).trans hrun, hu⟩

end Sys2Proof.Machine

namespace Sys2Proof.Proofs

open Sys2Proof.Machine Sys2Proof.Claims

/-- Settles O5: both sides are the completion of the command in flight. -/
theorem engineStepRunsTheCommandInFlight : Obligations.EngineStepRunsTheCommandInFlight :=
  fun s rest p he hp => (step_completion s rest p hp he).trans (exec_engine p (s.turn .engine rest) rfl hp).symm

/-- Settles O6. -/
theorem everyStepAnswersANextState : Obligations.EveryStepAnswersANextState :=
  State.steps_of_any

/-- Settles O37: the bad accesses are those that reach no register. -/
theorem badAccessesGetTheBusError : Obligations.BadAccessesGetTheBusError := by
  intro s rest bits off bad
  have hbad : target bits off = none ↔ bad := target_eq_none_iff bits off
  rw [← hbad]
  refine ⟨fun hs => ?_, fun v hs => ?_⟩
  · obtain ⟨ht, he⟩ | ⟨ht, w, n, he⟩ := step_of_read_cases s rest bits off hs
    · exact ⟨fun _ => he, fun hn => absurd ht hn⟩
    · exact ⟨fun hn => absurd hn ht, fun _ => ⟨_, w, he, rfl⟩⟩
  · obtain ⟨ht, he⟩ | ⟨ht, he⟩ := step_of_write_cases s rest bits off v hs
    · exact ⟨fun _ => he, fun hn => absurd ht hn⟩
    · exact ⟨fun hn => absurd hn ht, fun _ => he⟩

/-- Settles O38: a read answers, with the bus error or with a word, and draws at most a free value. -/
theorem readsChangeNoRegister : Obligations.ReadsChangeNoRegister := by
  intro s rest bits off hs
  obtain ⟨-, he⟩ | ⟨-, w, n, he⟩ := step_of_read_cases s rest bits off hs
  · exact ⟨_, he, rfl⟩
  · exact ⟨_, he, rfl⟩

/-- Settles O60: by induction on the events to come. -/
theorem commandsInFlightCompleteUnlessReset : Obligations.CommandsInFlightCompleteUnlessReset :=
  ⟨fun _ _ h hp hr => h.reaches_completion hp hr, fun _ h => h.run_to_rest⟩

end Sys2Proof.Proofs
end

section
-- The bodies are elaborated one after the other: side by side they do not fit in the check's memory.
set_option deprecated.oldSectionVars true
/-!
PROOFS. The encoding of the command words: the decoder reads exactly the encoded word (O1), a word decodes where the three checks pass
(O2), the words the spec writes out (O3), and the check order of a CMD write (O19).
-/

namespace Sys2Proof.Machine

/-! ## The fields of a word under the masks of rule R84 -/

/-- The mask of check (2) keeps RSV. -/
theorem rsvField_and_mask (w : Word) : rsvField (w &&& 0xFFFFF000) = rsvField w :=
  BitVec.extractLsb'_and.trans BitVec.and_allOnes

/-- The first mask of check (3) keeps RKI. -/
theorem rkiField_and_mask (w : Word) : rkiField (w &&& 0x00000F00) = rkiField w :=
  BitVec.extractLsb'_and.trans BitVec.and_allOnes

/-- The second mask of check (3) keeps OPC. -/
theorem opcField_and_mask (w : Word) : opcField (w &&& 0x000000FF) = opcField w :=
  BitVec.extractLsb'_and.trans BitVec.and_allOnes

/-- OPC as a number is what check (1) looks at. -/
theorem toNat_opcField (w : Word) : (opcField w).toNat = w.toNat % 256 := by
  simp [opcField]

/-- A well-formed word has RSV = 0. -/
theorem rsvField_of_reservedZero {w : Word} (h : reservedZero w = true) : rsvField w = 0 := by
  rw [← rsvField_and_mask, eq_of_beq h]
  rfl

/-- A well-formed word has RKI = 0 or the opcode of ADDROUNDKEY. -/
theorem rkiField_or_opcField_of_rkiAllowed {w : Word} (h : rkiAllowed w = true) : rkiField w = 0 ∨ opcField w = 0x16 := by
  obtain h | h := Bool.or_eq_true_iff.mp h
  · rw [← rkiField_and_mask, eq_of_beq h]
    exact .inl rfl
  · rw [← opcField_and_mask, eq_of_beq h]
    exact .inr rfl

/-! ## Every well-formed word is the word of a command -/

/-- Every opcode of the map is that of a command with RKI = 0. -/
theorem exists_opcode_eq_of_listed (opc : Byte) (h : opc.toNat ≤ 0x04 ∨ 0x10 ≤ opc.toNat ∧ opc.toNat ≤ 0x16) :
    ∃ i : Instr, i.opcode = opc ∧ i.rki = 0 := by
  have table : ∀ n < 0x17, n ≤ 0x04 ∨ 0x10 ≤ n →
      ∃ i ∈ [Instr.nop, .expand, .encrypt, .decrypt, .clear, .subBytes, .invSubBytes, .shiftRows, .invShiftRows, .mixColumns,
        .invMixColumns, .addRoundKey 0], i.opcode = BitVec.ofNat 8 n ∧ i.rki = 0 := by decide
  obtain ⟨i, -, hopc, hrki⟩ := table opc.toNat (by omega) (by omega)
  exact ⟨i, hopc.trans ((BitVec.ofNat_toNat 8 opc).trans opc.setWidth_eq), hrki⟩

/-- The fields of a word determine the command it is the word of. -/
theorem eq_encode_of_fields {w : Word} {i : Instr} (hrsv : rsvField w = 0) (hrki : rkiField w = i.rki)
    (hopc : opcField w = i.opcode) : w = encode i := by
  rw [word_eq_fields w, hrsv, hrki, hopc]
  rfl

/-- A word that passes the three checks of rule R84 is the word of a command. -/
theorem exists_eq_encode_of_wordWellFormed {w : Word} (h : wordWellFormed w = true) : ∃ i, w = encode i := by
  obtain ⟨⟨hlisted, hrsv⟩, hrki⟩ : (opcodeListed w = true ∧ reservedZero w = true) ∧ rkiAllowed w = true := by
    simpa [wordWellFormed] using h
  have hrsv := rsvField_of_reservedZero hrsv
  obtain hrki | hopc := rkiField_or_opcField_of_rkiAllowed hrki
  · obtain ⟨i, hopc, hi⟩ := exists_opcode_eq_of_listed (opcField w) (by simpa [toNat_opcField, opcodeListed] using hlisted)
    exact ⟨i, eq_encode_of_fields hrsv (hrki.trans hi.symm) hopc.symm⟩
  · exact ⟨.addRoundKey (rkiField w), eq_encode_of_fields hrsv rfl hopc⟩

/-! ## The decoder on the word of a command -/

/-- The word of a command holds its opcode and RKI, and RSV = 0. -/
theorem fields_encode (i : Instr) :
    opcField (encode i) = i.opcode ∧ rkiField (encode i) = i.rki ∧ rsvField (encode i) = 0 := by
  cases i with
  | addRoundKey rki => exact (Laws.EncodedFields.addRoundKey rki).2
  | _ => exact ⟨rfl, rfl, rfl⟩

/-- The opcode map inverts the opcode and RKI of a command. -/
theorem decodeOpcode_opcode_rki (i : Instr) : decodeOpcode i.opcode i.rki = .ok i := by
  cases i <;> rfl

/-- The decoder reads the word of a command back (rule R88). -/
@[simp] theorem decode_encode (i : Instr) : decode (encode i) = .ok i := by
  obtain ⟨hopc, hrki, hrsv⟩ := fields_encode i
  rw [decode, if_neg (not_not.mpr hrsv), hopc, hrki, decodeOpcode_opcode_rki]

/-- A word decodes exactly when the three checks of rule R84 pass. -/
theorem exists_decode_eq_ok_iff (w : Word) : (∃ i, decode w = .ok i) ↔ wordWellFormed w = true := by
  constructor
  · rintro ⟨i, hi⟩
    rw [eq_encode_of_decode hi, wordWellFormed_encode]
  · intro h
    obtain ⟨i, rfl⟩ := exists_eq_encode_of_wordWellFormed h
    exact ⟨i, decode_encode i⟩

end Sys2Proof.Machine

namespace Sys2Proof.Proofs

open Sys2Proof.Machine Sys2Proof.Claims

/-- Settles O1: the fields of a word determine its command, and the decoder reads the fields of an encoding back. -/
theorem decodeReadsExactlyTheEncodedWord : Obligations.DecodeReadsExactlyTheEncodedWord :=
  fun i _ => ⟨eq_encode_of_decode, fun h => h ▸ decode_encode i⟩

/-- The CMD write of an ill-formed word to an idle engine raises ILLEGAL. -/
theorem step_writeOf_cmd_illFormed {s : State} {rest : List Event} {w : Word} (hs : s.script = writeOf .cmd w :: rest)
    (hb : s.busy = false) (hw : wordWellFormed w = false) :
    step s = .next (raised (answered s rest (.okay none)) .illegal) := by
  cases hd : decode w with
  | ok i => exact flag_absurd hw ((exists_decode_eq_ok_iff w).mp ⟨i, hd⟩)
  | error e => rw [step_writeOf_cmd_rejected s rest w e hd hs, if_neg (by simp [hb]), State.raise_eq_raised]

/-- Settles O2: the well-formed words are the words of the commands, and the decoder rejects every other. -/
theorem wellFormedWordsDecodeAndOthersRaiseIllegal : Obligations.WellFormedWordsDecodeAndOthersRaiseIllegal :=
  ⟨exists_decode_eq_ok_iff, fun _ _ _ hs hb hw => step_writeOf_cmd_illFormed hs hb hw⟩

/-- Settles O3: the thirteen accepted words are encodings; the six others are evaluated. -/
theorem specWordsDecodeAsWritten : Obligations.SpecWordsDecodeAsWritten :=
  ⟨decode_encode .nop, decode_encode .expand, decode_encode .encrypt, decode_encode .decrypt, decode_encode .clear,
    decode_encode .subBytes, decode_encode .invSubBytes, decode_encode .shiftRows, decode_encode .invShiftRows,
    decode_encode .mixColumns, decode_encode .invMixColumns, decode_encode (.addRoundKey 10), decode_encode (.addRoundKey 15),
    rfl, rfl, rfl, rfl, rfl, rfl⟩

/-- Settles O19: a word fails BUSY, or is ill-formed, or is the word of a command, whose own checks are its precondition. -/
theorem commandWriteRaisesTheFirstErrorInOrder : Obligations.CommandWriteRaisesTheFirstErrorInOrder := by
  intro s rest w hs
  cases hb : s.busy with
  | true =>
    have hfirst : firstError s w = some .busy := if_pos hb
    rw [hfirst]
    exact step_writeOf_cmd_busy s rest w hs hb
  | false =>
    cases hw : wordWellFormed w with
    | false =>
      have hfirst : firstError s w = some .illegal := by simp [firstError, hb, hw]
      rw [hfirst]
      exact step_writeOf_cmd_illFormed hs hb hw
    | true =>
      obtain ⟨i, rfl⟩ := exists_eq_encode_of_wordWellFormed hw
      have hissue := step_writeOf_cmd_issue s rest _ i (decode_encode i) hs
      rw [firstError_encode s i hb]
      cases hpre : precondition s i with
      | some e =>
        rw [hpre, State.issue_of_error (answered s _ _) e _ hb, State.raise_eq_raised] at hissue
        exact hissue
      | none =>
        rw [hpre, State.issue_of_accepted (answered s _ _) _ hb, State.accept_eq] at hissue
        exact ⟨_, capture s i, hissue, rfl, rfl, rfl, congrArg encode (capture_instr s i), rfl, rfl⟩

end Sys2Proof.Proofs
end

section
-- The bodies are elaborated one after the other: side by side they do not fit in the check's memory.
set_option deprecated.oldSectionVars true
/-!
PROOFS. Arithmetic in GF(2^8) (O43, O44) and the S-boxes over it (O45, O46). Multiplication and the reduced product of polynomials are
linear over exclusive OR in each operand, so an identity between products of bytes is settled on the eight powers of x.
-/

namespace Sys2Proof.Machine

open Sys2Proof.Claims

/-! ## Bytes as sums of powers of x -/

/-- Taking away a power of x that its bits name makes a byte smaller. -/
theorem toNat_xor_twoPow_lt {a : Byte} {i : Nat} (hi : i < 8) (h : a.getLsbD i = true) :
    (a ^^^ BitVec.twoPow 8 i).toNat < a.toNat := by
  have hbit : ∀ j, (a ^^^ BitVec.twoPow 8 i).getLsbD j = (a.getLsbD j ^^ decide (i = j)) := fun j => by
    rw [BitVec.getLsbD_xor, BitVec.getLsbD_twoPow, decide_eq_true hi, Bool.true_and]
  refine Nat.lt_of_testBit i ?_ h fun j hj => ?_
  · exact (hbit i).trans (by simp [h])
  · exact (hbit j).trans (by rw [decide_eq_false hj.ne, Bool.xor_false]; rfl)

/-- What holds of the eight powers of x, and of the sum of any two bytes it holds of, holds of every byte (rule R100). -/
theorem byte_induction {P : Byte → Prop} (power : ∀ i < 8, P (BitVec.twoPow 8 i)) (add : ∀ a b, P a → P b → P (a ^^^ b))
    (a : Byte) : P a := by
  by_cases h : ∃ i < 8, a.getLsbD i = true
  · obtain ⟨i, hi, hbit⟩ := h
    have hlt := toNat_xor_twoPow_lt hi hbit
    have rest : P (a ^^^ BitVec.twoPow 8 i) := byte_induction power add _
    have sum : P (a ^^^ BitVec.twoPow 8 i ^^^ BitVec.twoPow 8 i) := add _ _ rest (power i hi)
    rwa [BitVec.xor_assoc, BitVec.xor_self, BitVec.xor_zero] at sum
  · have hzero : a = 0#8 := BitVec.eq_of_getLsbD_eq fun i hi => by simpa using fun hb => h ⟨i, hi, hb⟩
    have zero : P (BitVec.twoPow 8 0 ^^^ BitVec.twoPow 8 0) := add _ _ (power 0 (by decide)) (power 0 (by decide))
    rwa [BitVec.xor_self, ← hzero] at zero
termination_by a.toNat
decreasing_by exact hlt

/-- What holds along each row of a table of bytes holds of every byte (rules R104 and R106): a table is checked a row at a time, which keeps
each check small. -/
theorem byte_rows {P : Byte → Prop} (row : ∀ r < 16, ∀ c < 16, P (BitVec.ofNat 8 (16 * r + c))) (x : Byte) : P x := by
  have h := row (x.toNat / 16) (by omega) (x.toNat % 16) (by omega)
  rwa [Nat.div_add_mod, BitVec.ofNat_toNat, BitVec.setWidth_eq] at h

/-- Two sums, one term each added under a flag: the term is in their sum where exactly one flag is set. -/
theorem xor_if_xor (x y : Bool) (p q t : Nat) :
    (if x ^^ y then p ^^^ q ^^^ t else p ^^^ q) = (if x then p ^^^ t else p) ^^^ (if y then q ^^^ t else q) := by
  cases x <;> cases y <;> simp [Nat.xor_comm, Nat.xor_left_comm]

/-- The same for sums of bytes. -/
theorem byte_xor_if_xor (x y : Bool) (p q t : Byte) :
    (if x ^^ y then p ^^^ q ^^^ t else p ^^^ q) = (if x then p ^^^ t else p) ^^^ (if y then q ^^^ t else q) := by
  apply BitVec.eq_of_toNat_eq
  simpa only [BitVec.toNat_xor, apply_ite BitVec.toNat] using xor_if_xor x y p.toNat q.toNat t.toNat

/-! ## Multiplication is linear in each operand -/

/-- Multiplying by x distributes over the sum. -/
theorem shiftReduce_xor (a b : Byte) : shiftReduce (a ^^^ b) = shiftReduce a ^^^ shiftReduce b := by
  unfold shiftReduce
  rw [BitVec.getLsbD_xor, BitVec.shiftLeft_xor_distrib, byte_xor_if_xor]

/-- The multiply loop is additive in the accumulator and the first operand together. -/
theorem gmulLoop_xor_left (n : Nat) (acc acc' a a' b : Byte) :
    gmulLoop n (acc ^^^ acc') (a ^^^ a') b = gmulLoop n acc a b ^^^ gmulLoop n acc' a' b := by
  induction n generalizing acc acc' a a' b with
  | zero => rfl
  | succ n ih =>
    simp only [gmulLoop, shiftReduce_xor]
    rw [← ih]
    congr 1
    split
    · ac_rfl
    · rfl

/-- The multiply loop is additive in the accumulator and the second operand together. -/
theorem gmulLoop_xor_right (n : Nat) (acc acc' a b b' : Byte) :
    gmulLoop n (acc ^^^ acc') a (b ^^^ b') = gmulLoop n acc a b ^^^ gmulLoop n acc' a b' := by
  induction n generalizing acc acc' a b b' with
  | zero => rfl
  | succ n ih =>
    simp only [gmulLoop]
    rw [BitVec.getLsbD_xor, BitVec.ushiftRight_xor_distrib, byte_xor_if_xor, ih]

/-- Multiplication distributes over the sum on the left. -/
theorem gmul_xor_left (a b c : Byte) : gmul (a ^^^ b) c = gmul a c ^^^ gmul b c := gmulLoop_xor_left 8 0 0 a b c

/-- Multiplication distributes over the sum on the right. -/
theorem gmul_xor_right (a b c : Byte) : gmul a (b ^^^ c) = gmul a b ^^^ gmul a c := gmulLoop_xor_right 8 0 0 a b c

/-! ## The reduced product of polynomials is linear in each operand -/

/-- Folding with steps that distribute over the sum distributes over the sum. -/
theorem foldl_xor {f g h : Nat → Nat → Nat} (step : ∀ p q i, h (p ^^^ q) i = f p i ^^^ g q i) (l : List Nat) (p q : Nat) :
    l.foldl h (p ^^^ q) = l.foldl f p ^^^ l.foldl g q :=
  List.foldl_hom₂ l (· ^^^ ·) f g h p q fun p q i => (step p q i).symm

/-- The product of polynomials distributes over the sum on the left. -/
theorem polyProduct_xor_left (a b c : Byte) : polyProduct (a ^^^ b) c = polyProduct a c ^^^ polyProduct b c := by
  unfold polyProduct
  refine foldl_xor (fun p q i => ?_) (List.range 8) 0 0
  rw [BitVec.toNat_xor, Nat.shiftLeft_xor_distrib]
  split
  · ac_rfl
  · rfl

/-- The product of polynomials distributes over the sum on the right. -/
theorem polyProduct_xor_right (a b c : Byte) : polyProduct a (b ^^^ c) = polyProduct a b ^^^ polyProduct a c := by
  unfold polyProduct
  refine foldl_xor (fun p q i => ?_) (List.range 8) 0 0
  rw [BitVec.getLsbD_xor, xor_if_xor]

/-- Reducing distributes over the sum. -/
theorem polyReduce_xor (p q : Nat) : polyReduce (p ^^^ q) = polyReduce p ^^^ polyReduce q := by
  unfold polyReduce
  rw [← BitVec.ofNat_xor]
  congr 1
  refine foldl_xor (fun p q d => ?_) _ p q
  rw [Nat.testBit_xor, xor_if_xor]

/-- On two powers of x, the multiply loop gives the reduced product. -/
theorem gmul_powers_eq_polyReduce :
    ∀ i < 8, ∀ j < 8,
      gmul (BitVec.twoPow 8 i) (BitVec.twoPow 8 j) = polyReduce (polyProduct (BitVec.twoPow 8 i) (BitVec.twoPow 8 j)) := by
  decide +kernel

/-- Multiplication is the reduced product of polynomials (rule R100). -/
theorem gmul_eq_polyReduce (a b : Byte) : gmul a b = polyReduce (polyProduct a b) := by
  induction a using byte_induction with
  | add a a' ha ha' => rw [gmul_xor_left, polyProduct_xor_left, polyReduce_xor, ha, ha']
  | power i hi =>
    induction b using byte_induction with
    | add b b' hb hb' => rw [gmul_xor_right, polyProduct_xor_right, polyReduce_xor, hb, hb']
    | power j hj => exact gmul_powers_eq_polyReduce i hi j hj

/-! ## The laws of a field (rule R103) -/

/-- The product with 0. -/
@[simp] theorem gmul_zero (a : Byte) : gmul a 0 = 0 := by
  have h := gmul_xor_right a 0 0
  rwa [BitVec.xor_self, BitVec.xor_self] at h

/-- The product with 1. -/
@[simp] theorem gmul_one (a : Byte) : gmul a 1 = a := by
  induction a using byte_induction with
  | add a a' ha ha' => rw [gmul_xor_left, ha, ha']
  | power i hi => interval_cases i <;> decide

/-- Powers of x commute. -/
theorem gmul_powers_comm :
    ∀ i < 8, ∀ j < 8, gmul (BitVec.twoPow 8 i) (BitVec.twoPow 8 j) = gmul (BitVec.twoPow 8 j) (BitVec.twoPow 8 i) := by
  decide +kernel

/-- Multiplication is commutative. -/
theorem gmul_comm (a b : Byte) : gmul a b = gmul b a := by
  induction a using byte_induction with
  | add a a' ha ha' => rw [gmul_xor_left, gmul_xor_right, ha, ha']
  | power i hi =>
    induction b using byte_induction with
    | add b b' hb hb' => rw [gmul_xor_left, gmul_xor_right, hb, hb']
    | power j hj => exact gmul_powers_comm i hi j hj

/-- Powers of x associate. -/
theorem gmul_powers_assoc (i : Nat) (hi : i < 8) : ∀ j < 8, ∀ k < 8,
    gmul (gmul (BitVec.twoPow 8 i) (BitVec.twoPow 8 j)) (BitVec.twoPow 8 k) =
      gmul (BitVec.twoPow 8 i) (gmul (BitVec.twoPow 8 j) (BitVec.twoPow 8 k)) := by
  interval_cases i <;> decide +kernel

/-- Multiplication is associative. -/
theorem gmul_assoc (a b c : Byte) : gmul (gmul a b) c = gmul a (gmul b c) := by
  induction a using byte_induction with
  | add a a' ha ha' => rw [gmul_xor_left, gmul_xor_left, gmul_xor_left, ha, ha']
  | power i hi =>
    induction b using byte_induction with
    | add b b' hb hb' => rw [gmul_xor_right, gmul_xor_left, gmul_xor_left, gmul_xor_right, hb, hb']
    | power j hj =>
      induction c using byte_induction with
      | add c c' hc hc' => rw [gmul_xor_right, gmul_xor_right, gmul_xor_right, hc, hc']
      | power k hk => exact gmul_powers_assoc i hi j hj k hk

/-- A byte has at most one inverse. -/
theorem gmul_inverse_unique {a x y : Byte} (hx : gmul a x = 1) (hy : gmul a y = 1) : y = x := by
  calc y = gmul y (gmul a x) := by rw [hx, gmul_one]
    _ = gmul x (gmul a y) := by rw [← gmul_assoc, gmul_comm, gmul_comm y a]
    _ = x := by rw [hy, gmul_one]

/-! ## The S-box over the field -/

/-- The affine map of rule R105 undone. -/
def affineInverse (s : Byte) : Byte := s.rotateLeft 1 ^^^ s.rotateLeft 3 ^^^ s.rotateLeft 6 ^^^ 0x05

/-- The affine map takes what `affineInverse` gives back to the byte it came from. -/
theorem affineBit_affineInverse (s : Byte) : ∀ i < 8, affineBit (affineInverse s) i = s.getLsbD i := by
  induction s using byte_rows with
  | row r hr c hc =>
    revert c
    interval_cases r <;> decide +kernel

/-- The S-box table lists the inverses of the non-zero bytes, under the affine map (rule R105). -/
theorem gmul_affineInverse_sbox (x : Byte) : x ≠ 0 → gmul x (affineInverse (sbox x)) = 1 := by
  induction x using byte_rows with
  | row r hr c hc =>
    revert c
    interval_cases r <;> decide +kernel

/-- The entry of a byte is the affine map of its inverse. -/
theorem getLsbD_sbox_of_gmul_eq_one {x y : Byte} (h : gmul x y = 1) (i : Nat) (hi : i < 8) :
    (sbox x).getLsbD i = affineBit y i := by
  have hx : x ≠ 0 := by
    rintro rfl
    rw [gmul_comm, gmul_zero] at h
    exact absurd h (by decide)
  rw [gmul_inverse_unique (gmul_affineInverse_sbox x hx) h, affineBit_affineInverse _ i hi]

/-- The inverse table undoes the S-box table. -/
theorem invSbox_sbox : ∀ x : Byte, invSbox (sbox x) = x := by decide +kernel

/-- The S-box table undoes the inverse table: a map of the bytes to themselves that has a left inverse is a permutation. -/
theorem sbox_invSbox (y : Byte) : sbox (invSbox y) = y := by
  have hfinite : Finite Byte := Finite.of_injective BitVec.toFin fun _ _ => BitVec.eq_of_toFin_eq
  have hleft : Function.LeftInverse invSbox sbox := invSbox_sbox
  exact hleft.rightInverse_of_surjective (Finite.surjective_of_injective hleft.injective) y

/-- No entry of the S-box is its index or the complement of its index (rule R104). -/
theorem sbox_no_fixed_point : ∀ x : Byte, sbox x ≠ x ∧ sbox x ≠ x ^^^ 0xFF := by decide +kernel

end Sys2Proof.Machine

namespace Sys2Proof.Proofs

open Sys2Proof.Machine

/-- Settles O43: both sides are linear in each operand, and agree on the powers of x. -/
theorem gmulIsThePolynomialProduct : Obligations.GmulIsThePolynomialProduct := gmul_eq_polyReduce

/-- Settles O44: the inverse of a non-zero byte is its S-box entry with the affine map undone, and associativity makes it the only one. -/
theorem gmulIsAFieldMultiplication : Obligations.GmulIsAFieldMultiplication :=
  ⟨gmul_zero, gmul_one, gmul_comm, gmul_xor_right,
    fun a ha => ⟨affineInverse (sbox a), gmul_affineInverse_sbox a ha, fun _ => gmul_inverse_unique (gmul_affineInverse_sbox a ha)⟩,
    by decide, by decide⟩

/-- Settles O45: a byte's only inverse is its S-box entry with the affine map undone. -/
theorem sboxIsTheAffineMapOfTheInverse : Obligations.SboxIsTheAffineMapOfTheInverse :=
  ⟨by decide, fun _ _ => getLsbD_sbox_of_gmul_eq_one⟩

/-- Settles O46: the inverse table undoes the S-box entry by entry, which makes both permutations. -/
theorem inverseSboxUndoesTheSbox : Obligations.InverseSboxUndoesTheSbox :=
  ⟨invSbox_sbox, sbox_invSbox, sbox_no_fixed_point, by decide, by decide, by decide, by decide⟩

end Sys2Proof.Proofs
end

section
-- The bodies are elaborated one after the other: side by side they do not fit in the check's memory.
set_option deprecated.oldSectionVars true
/-!
PROOFS. The key expansion (O48): growing the schedule keeps the words there are, and each word it adds follows the recurrence.
-/

namespace Sys2Proof.Machine

/-- Growing a schedule by `n` words adds `n` words. -/
@[simp] theorem length_growSchedule (nk n : Nat) (w : List Word) : (growSchedule nk n w).length = w.length + n := by
  induction n generalizing w with
  | zero => rfl
  | succ n ih => rw [growSchedule, ih, List.length_append, List.length_singleton]; omega

/-- Growing a schedule keeps the words it has. -/
theorem getD_growSchedule_of_lt (nk n : Nat) (w : List Word) (i : Nat) (hi : i < w.length) :
    (growSchedule nk n w).getD i 0 = w.getD i 0 := by
  induction n generalizing w with
  | zero => rfl
  | succ n ih =>
    have hi' : i < (w ++ [nextWord nk w]).length := by simp; omega
    rw [growSchedule, ih _ hi', List.getD_append _ _ _ _ hi]

/-- A word added to a schedule is the word Nk back and the transform of the word before (rule R125). -/
theorem getD_growSchedule_of_ge (nk n : Nat) (hnk : 0 < nk) (w : List Word) (hw : w ≠ []) (i : Nat) (hi : w.length ≤ i)
    (hin : i < w.length + n) :
    (growSchedule nk n w).getD i 0 =
      (growSchedule nk n w).getD (i - nk) 0 ^^^ scheduleStep nk i ((growSchedule nk n w).getD (i - 1) 0) := by
  induction n generalizing w with
  | zero => omega
  | succ n ih =>
    have hlen : (w ++ [nextWord nk w]).length = w.length + 1 := by simp
    have hpos : 0 < w.length := List.length_pos_iff.mpr hw
    rw [growSchedule]
    by_cases h : i = w.length
    · subst h
      have kept : ∀ j < w.length, (growSchedule nk n (w ++ [nextWord nk w])).getD j 0 = w.getD j 0 := fun j hj => by
        rw [getD_growSchedule_of_lt _ _ _ _ (by omega), List.getD_append _ _ _ _ hj]
      rw [getD_growSchedule_of_lt _ _ _ _ (by omega), kept _ (by omega), kept _ (by omega),
        List.getD_append_right _ _ _ _ le_rfl, Nat.sub_self]
      rfl
    · exact ih _ (by simp) (by omega) (by omega)

/-- The word of a round constant has it in bits 31..24. -/
theorem rconWord_eq_shiftLeft (j : Nat) : rconWord j = (rcon j).setWidth 32 <<< 24 := by
  apply BitVec.eq_of_getLsbD_eq
  intro i hi
  rw [rconWord, getLsbD_word, BitVec.getLsbD_shiftLeft, BitVec.getLsbD_setWidth]
  by_cases h : i < 24
  · simp [h]
  · have hlow : ¬ i < 8 ∧ ¬ i < 16 := by omega
    have hhigh : i - 24 < 32 := by omega
    simp [h, hi, hlow, hhigh]

end Sys2Proof.Machine

namespace Sys2Proof.Proofs

open Sys2Proof.Machine

/-- Settles O48: the expansion is the key grown to 4(Nr + 1) words, and the table of round constants is the powers of x. -/
theorem expansionFollowsItsRecurrence : Obligations.ExpansionFollowsItsRecurrence := by
  refine ⟨?_, ?_, by decide⟩
  · intro k nk nr hk hnk hnr
    have hne : k ≠ [] := List.length_pos_iff.mp (by omega)
    refine ⟨?_, ?_, ?_⟩
    · rw [keyExpansion, length_growSchedule]
      omega
    · intro i hi
      exact getD_growSchedule_of_lt _ _ _ _ (by omega)
    · intro i hi hin
      rw [← rconWord_eq_shiftLeft]
      exact getD_growSchedule_of_ge nk _ (by omega) k hne i (by omega) (by omega)
  · intro j hj _
    obtain ⟨j, rfl⟩ := Nat.exists_eq_add_of_le' hj
    rfl

end Sys2Proof.Proofs
end

section
-- The bodies are elaborated one after the other: side by side they do not fit in the check's memory.
set_option deprecated.oldSectionVars true
/-!
PROOFS. The commands of the key schedule: the acceptance and the completion of EXPAND (O9, O11), and RotWord and SubWord (O47).
-/

namespace Sys2Proof.Machine

open Sys2Proof.Claims

/-! ## The key operand -/

/-- A key size that EXPAND accepts selects at most the eight key words there are. -/
theorem nkOf_le (k : BitVec 2) (h : k ≠ 3) : nkOf k ≤ 8 :=
  Nat.le_of_add_le_add_right (nrOf_le k h)

/-- The rounds of a key size (rule R128). -/
theorem nrOf_eq (k : BitVec 2) : nrOf k = 10 + 2 * k.toNat := by
  rw [nrOf, nkOf]
  omega

/-- The key operand has Nk words. -/
theorem State.length_keyOperand (s : State) (h : s.ksz ≠ 3) : s.keyOperand.length = nkOf s.ksz := by
  rw [State.keyOperand, List.length_take, Vector.length_toList, Nat.min_eq_left (nkOf_le s.ksz h)]

/-- The words of the key operand are the key words from KEY0 on (rule R36). -/
theorem State.getD_keyOperand (s : State) (j : Nat) (hj : j < 8) (hk : j < nkOf s.ksz) : s.keyOperand.getD j 0 = s.key[j] := by
  simp [State.keyOperand, hk, hj]

/-! ## The handshake of EXPAND -/

/-- The acceptance of a command that drops the expansion, as the claims write it (rule R175). -/
theorem State.accept_eq_accepted_dropKey (s : State) (p : Pending) (h : p.dropsKey = true) :
    s.accept p = accepted { s with keyvalid := false, knr := 0 } p := by
  simp [State.accept_eq, h, accepted]

/-- A word of the RAM after an expansion is loaded: the expansion's, or what it was (rule R42). -/
theorem State.getElem_loadKeys_rk (w : List Word) (nr : Nat) (s : State) (j : Fin 60) :
    (s.loadKeys w nr).rk[j] = if j.val < 4 * (nr + 1) then w.getD j 0 else s.rk[j] := by
  rw [State.loadKeys_rk, Fin.getElem_fin, Vector.getElem_ofFn]

/-! ## The two byte functions of the schedule -/

/-- RotWord by shifts: each byte of the word stands eight bits higher, and the first byte comes last (rule R121). -/
theorem rotWord_eq_shifts (w : Word) : rotWord w = (w <<< 8) ||| (w >>> 24) := by
  apply BitVec.eq_of_getLsbD_eq
  intro i hi
  rw [rotWord, getLsbD_word, BitVec.getLsbD_or, BitVec.getLsbD_shiftLeft, BitVec.getLsbD_ushiftRight]
  simp only [bytes, BitVec.getLsbD_extractLsb']
  by_cases h8 : i < 8
  · simp [h8]
  · have hlast : w.getLsbD (24 + i) = false := BitVec.getLsbD_of_ge w _ (by omega)
    rw [if_neg h8, decide_eq_true hi, decide_eq_false h8, hlast, Bool.or_false, Bool.not_false, Bool.true_and, Bool.true_and]
    split_ifs <;> (rw [decide_eq_true (by omega), Bool.true_and]; congr 1; omega)

/-- SubWord on packed bytes (rule R122). -/
theorem subWord_word (c : Column) : subWord (word c) = word ⟨sbox c.a0, sbox c.a1, sbox c.a2, sbox c.a3⟩ := by
  rw [subWord, bytes_word, Column.map]

end Sys2Proof.Machine

namespace Sys2Proof.Proofs

open Sys2Proof.Machine Sys2Proof.Claims

/-- Settles O9: at a key size the acceptance captures the key operand, which is the first Nk key words. -/
theorem expandAcceptanceCapturesTheKey : Obligations.ExpandAcceptanceCapturesTheKey := by
  intro s ha hb hk
  have hexec := exec_of_accepted .expand s ha hb (if_neg hk)
  rw [capture, nrOf_eq, s.accept_eq_accepted_dropKey _ rfl] at hexec
  exact ⟨s.keyOperand, hexec, s.length_keyOperand hk, s.getD_keyOperand⟩

/-- Settles O11: the completion loads the expansion of what the acceptance captured. -/
theorem expandCompletionLoadsTheExpansion : Obligations.ExpandCompletionLoadsTheExpansion := by
  intro s k nk nr ha hp hnr
  exact ⟨_, exec_engine _ s ha hp, rfl, toNat_loadKeys_knr (keyExpansion k nk nr) nr s (by omega),
    State.getElem_loadKeys_rk (keyExpansion k nk nr) nr s⟩

/-- Settles O47: the two functions by their lemmas, and the examples evaluated. -/
theorem rotWordRotatesOneByte : Obligations.RotWordRotatesOneByte :=
  ⟨rotWord_eq_shifts, by decide, subWord_word, by decide⟩

end Sys2Proof.Proofs
end

section
-- The bodies are elaborated one after the other: side by side they do not fit in the check's memory.
set_option deprecated.oldSectionVars true
/-!
PROOFS. The round transforms as functions of the state: their entries (O49, O50) and their inverses (O51). MixColumns is undone because
the product of the two matrices is the identity, and multiplying by a matrix after another is multiplying by their product.
-/

namespace Sys2Proof.Machine

/-! ## Maps of columns and of bytes -/

/-- An entry of a state mapped by columns is a byte of its own mapped column. -/
theorem entry_mapColumns (f : Column → Column) (S : Grid) (r c : Fin 4) :
    (S.mapColumns f).entry r c = (f (S.column c)).byte r := by
  fin_cases c <;> rfl

/-- A byte of a column mapped by bytes. -/
theorem byte_map (f : Byte → Byte) (c : Column) (r : Fin 4) : (c.map f).byte r = f (c.byte r) := by
  fin_cases r <;> rfl

/-- Entry `r`, `c` of SubBytes (rule R140). -/
theorem entry_subBytes (S : Grid) (r c : Fin 4) : (subBytes S).entry r c = sbox (S.entry r c) :=
  (entry_mapColumns _ S r c).trans (byte_map sbox _ r)

/-- Entry `r`, `c` of InvSubBytes (rule R141). -/
theorem entry_invSubBytes (S : Grid) (r c : Fin 4) : (invSubBytes S).entry r c = invSbox (S.entry r c) :=
  (entry_mapColumns _ S r c).trans (byte_map invSbox _ r)

/-- A map of columns is undone by a map that undoes it on each column. -/
theorem mapColumns_leftInverse {f g : Column → Column} (h : Function.LeftInverse g f) :
    Function.LeftInverse (Grid.mapColumns g) (Grid.mapColumns f) :=
  fun S => by simp only [Grid.mapColumns, h _]

/-- A map of bytes is undone by a map that undoes it on each byte. -/
theorem map_leftInverse {f g : Byte → Byte} (h : Function.LeftInverse g f) :
    Function.LeftInverse (Column.map g) (Column.map f) :=
  fun c => by simp only [Column.map, h _]

@[simp] theorem invSubBytes_subBytes (S : Grid) : invSubBytes (subBytes S) = S :=
  mapColumns_leftInverse (map_leftInverse invSbox_sbox) S

@[simp] theorem subBytes_invSubBytes (S : Grid) : subBytes (invSubBytes S) = S :=
  mapColumns_leftInverse (map_leftInverse sbox_invSbox) S

/-! ## Rows -/

@[simp] theorem invShiftRows_shiftRows (S : Grid) : invShiftRows (shiftRows S) = S := rfl

@[simp] theorem shiftRows_invShiftRows (S : Grid) : shiftRows (invShiftRows S) = S := rfl

/-- What acts on each byte alone commutes with moving the bytes along their rows (rule R147). -/
theorem shiftRows_mapBytes (f : Byte → Byte) (S : Grid) :
    shiftRows (S.mapColumns (Column.map f)) = (shiftRows S).mapColumns (Column.map f) := rfl

theorem invShiftRows_mapBytes (f : Byte → Byte) (S : Grid) :
    invShiftRows (S.mapColumns (Column.map f)) = (invShiftRows S).mapColumns (Column.map f) := rfl

/-! ## Matrices -/

/-- The product with 1 on the left. -/
@[simp] theorem one_gmul (a : Byte) : gmul 1#8 a = a := (gmul_comm 1 a).trans (gmul_one a)

/-- The product with 0 on the left. -/
@[simp] theorem zero_gmul (a : Byte) : gmul 0#8 a = 0 := (gmul_comm 0 a).trans (gmul_zero a)

/-- The product with the MixColumns matrix, written out (rules R108 and R144). -/
theorem mulColumn_mixMatrix (s : Column) :
    mulColumn mixMatrix s =
      ⟨gmul 2 s.a0 ^^^ gmul 3 s.a1 ^^^ s.a2 ^^^ s.a3,
       s.a0 ^^^ gmul 2 s.a1 ^^^ gmul 3 s.a2 ^^^ s.a3,
       s.a0 ^^^ s.a1 ^^^ gmul 2 s.a2 ^^^ gmul 3 s.a3,
       gmul 3 s.a0 ^^^ s.a1 ^^^ s.a2 ^^^ gmul 2 s.a3⟩ := by
  simp [mulColumn, mixMatrix, dot]

/-- A row times a matrix: the row's combination of the matrix's rows. -/
def mulRow (r : Column) (m : Matrix4) : Column where
  a0 := dot r ⟨m[0].a0, m[1].a0, m[2].a0, m[3].a0⟩
  a1 := dot r ⟨m[0].a1, m[1].a1, m[2].a1, m[3].a1⟩
  a2 := dot r ⟨m[0].a2, m[1].a2, m[2].a2, m[3].a2⟩
  a3 := dot r ⟨m[0].a3, m[1].a3, m[2].a3, m[3].a3⟩

/-- The product of two matrices over the field. -/
def mulMatrix (m n : Matrix4) : Matrix4 := #v[mulRow m[0] n, mulRow m[1] n, mulRow m[2] n, mulRow m[3] n]

/-- The identity matrix. -/
def identityMatrix : Matrix4 := #v[⟨1, 0, 0, 0⟩, ⟨0, 1, 0, 0⟩, ⟨0, 0, 1, 0⟩, ⟨0, 0, 0, 1⟩]

/-- A row times the product of a matrix and a column is the row times the matrix, times the column: the sixteen products of three bytes
are the same. -/
theorem dot_mulColumn (r : Column) (m : Matrix4) (c : Column) : dot r (mulColumn m c) = dot (mulRow r m) c := by
  simp only [dot, mulColumn, mulRow, gmul_xor_left, gmul_xor_right, gmul_assoc]
  ac_rfl

/-- Multiplying by a matrix after another is multiplying by their product. -/
theorem mulColumn_mulColumn (m n : Matrix4) (c : Column) : mulColumn m (mulColumn n c) = mulColumn (mulMatrix m n) c := by
  rw [mulColumn, dot_mulColumn, dot_mulColumn, dot_mulColumn, dot_mulColumn]
  rfl

/-- The identity matrix changes no column. -/
theorem mulColumn_identityMatrix (c : Column) : mulColumn identityMatrix c = c := by
  simp [mulColumn, identityMatrix, dot]

/-- A matrix is undone by one whose product with it is the identity. -/
theorem mulColumn_leftInverse {m n : Matrix4} (h : mulMatrix n m = identityMatrix) :
    Function.LeftInverse (mulColumn n) (mulColumn m) :=
  fun c => by rw [mulColumn_mulColumn, h, mulColumn_identityMatrix]

/-- The two mix matrices are inverses of each other (rules R108 and R109). -/
theorem mulMatrix_invMix_mix : mulMatrix invMixMatrix mixMatrix = identityMatrix := by decide

theorem mulMatrix_mix_invMix : mulMatrix mixMatrix invMixMatrix = identityMatrix := by decide

@[simp] theorem invMixColumns_mixColumns (S : Grid) : invMixColumns (mixColumns S) = S :=
  mapColumns_leftInverse (mulColumn_leftInverse mulMatrix_invMix_mix) S

@[simp] theorem mixColumns_invMixColumns (S : Grid) : mixColumns (invMixColumns S) = S :=
  mapColumns_leftInverse (mulColumn_leftInverse mulMatrix_mix_invMix) S

/-! ## Round keys -/

@[simp] theorem addRoundKey_addRoundKey (rk : Vector Word 60) (i : Nat) (S : Grid) :
    addRoundKey rk i (addRoundKey rk i S) = S := by
  simp [addRoundKey]

/-- Column `c` of AddRoundKey, as the RAM holds the round key (rule R146). -/
theorem column_addRoundKey (rk : Vector Word 60) (i : Nat) (S : Grid) (c : Fin 4) :
    (addRoundKey rk i S).column c = (S.column c).xor (bytes (rkWord rk (4 * i + c.val))) := by
  fin_cases c <;> rfl

/-- Exclusive OR of columns is that of their words. -/
theorem word_xor (c d : Column) : word (c.xor d) = word c ^^^ word d := by
  rw [← word_bytes (word c ^^^ word d), bytes_xor, bytes_word, bytes_word]

/-- Writing a state to DATA0..3 writes column `c` to DATAc (rule R41). -/
theorem getElem_fromGrid (S : Grid) (c : Fin 4) : (fromGrid S)[c] = word (S.column c) := by
  fin_cases c <;> rfl

/-- AddRoundKey of the state in DATA0..3 is an exclusive OR of words (rule R146). -/
theorem getElem_fromGrid_addRoundKey (rk : Vector Word 60) (i : Nat) (d : Vector Word 4) (c : Fin 4) :
    (fromGrid (addRoundKey rk i (toGrid d)))[c] = d[c] ^^^ rkWord rk (4 * i + c.val) := by
  rw [getElem_fromGrid, column_addRoundKey, column_toGrid, word_xor, word_bytes, word_bytes]

end Sys2Proof.Machine

namespace Sys2Proof.Proofs

open Sys2Proof.Machine

/-- Settles O49: the sixteen entries, one by one. -/
theorem shiftRowsMovesTheRows : Obligations.ShiftRowsMovesTheRows := by
  intro S r c
  fin_cases r <;> fin_cases c <;> exact ⟨rfl, rfl⟩

/-- Settles O50: column `c` of each is a matrix times column `c`, and the entries 1 of MixColumns' matrix are units. -/
theorem mixColumnsMultipliesByTheMatrices : Obligations.MixColumnsMultipliesByTheMatrices := by
  intro S c
  simp only [mixColumns, invMixColumns, entry_mapColumns, mulColumn_mixMatrix]
  exact ⟨rfl, rfl, rfl, rfl, rfl, rfl, rfl, rfl⟩

/-- Settles O51: each transform by its inverse, and the bytes' maps past the rows' moves. -/
theorem transformsHaveTheirInverses : Obligations.TransformsHaveTheirInverses :=
  fun S rk i => ⟨invSubBytes_subBytes S, subBytes_invSubBytes S, invShiftRows_shiftRows S, shiftRows_invShiftRows S,
    invMixColumns_mixColumns S, mixColumns_invMixColumns S, addRoundKey_addRoundKey rk i S,
    (shiftRows_mapBytes sbox S).symm, (invShiftRows_mapBytes invSbox S).symm⟩

end Sys2Proof.Proofs
end

section
-- The bodies are elaborated one after the other: side by side they do not fit in the check's memory.
set_option deprecated.oldSectionVars true
/-!
PROOFS. The primitive commands (O14 to O17, O23), and the frames of both halves of a command (O20, O21).
-/

namespace Sys2Proof.Machine

open Sys2Proof.Claims

/-! ## The six commands that need no key -/

/-- What rule R149 says of a primitive command that needs no key, for its record `c.2.1` and its transform `c.2.2`. -/
structure KeylessPrimitive (c : Instr × (Grid → Pending) × (Grid → Grid)) : Prop where
  requiresNothing : ∀ s, precondition s c.1 = none
  capturesTheBlock : ∀ s, capture s c.1 = c.2.1 s.block
  keepsTheKey : ∀ blk, (c.2.1 blk).dropsKey = false
  isInFlight : ∀ blk, (c.2.1 blk).instr = c.1
  writesItsTransform : ∀ s blk, writeResult s (c.2.1 blk) = s.setBlock (c.2.2 blk)

/-- The six commands of the list are such. -/
theorem keylessPrimitive_of_mem {c : Instr × (Grid → Pending) × (Grid → Grid)} (hc : c ∈ keyless) : KeylessPrimitive c := by
  simp only [keyless, List.mem_cons, List.not_mem_nil, or_false] at hc
  rcases hc with rfl | rfl | rfl | rfl | rfl | rfl <;>
    exact ⟨fun _ => rfl, fun _ => rfl, fun _ => rfl, fun _ => rfl, fun _ _ => rfl⟩

/-! ## What a half of a command leaves as it was -/

/-- Issuing a command that keeps the key leaves KEYVALID and KNR as they were. -/
theorem State.issue_keyRecord (s : State) (pre : Option ErrorCode) {p : Pending} (h : p.dropsKey = false) :
    (s.issue pre p).keyvalid = s.keyvalid ∧ (s.issue pre p).knr = s.knr := by
  obtain ⟨-, he⟩ | ⟨e, -, -, he⟩ | ⟨-, -, he⟩ := s.issue_cases pre p
  · simp [he]
  · simp [he]
  · simp [he, State.accept_eq, h]

/-- A rejection moves neither the handshake nor the key record, and an acceptance records no error (rules R175 and R203). -/
theorem State.issue_rejects_or_accepts (s : State) (pre : Option ErrorCode) (p : Pending) :
    ((s.issue pre p).pend = s.pend ∧ (s.issue pre p).busy = s.busy ∧ (s.issue pre p).done = s.done ∧
      (s.issue pre p).keyvalid = s.keyvalid ∧ (s.issue pre p).knr = s.knr) ∨
    ((s.issue pre p).errv = s.errv ∧ (s.issue pre p).errcode = s.errcode) := by
  obtain ⟨-, he⟩ | ⟨e, -, -, he⟩ | ⟨-, -, he⟩ := s.issue_cases pre p
  · exact .inl (by simp [he])
  · exact .inl (by simp [he])
  · exact .inr (by simp [he, State.accept_eq])

/-- The completion of every command but NOP, EXPAND and CLEAR writes a block and nothing else. -/
theorem writeResult_eq_setBlock (s : State) {p : Pending} (hnop : p.instr ≠ .nop) (hclear : p.instr ≠ .clear)
    (hexpand : p.instr ≠ .expand) : ∃ S, writeResult s p = s.setBlock S := by
  cases p with
  | nop => exact absurd rfl hnop
  | clear => exact absurd rfl hclear
  | expand => exact absurd rfl hexpand
  | _ => exact ⟨_, rfl⟩

end Sys2Proof.Machine

namespace Sys2Proof.Proofs

open Sys2Proof.Machine Sys2Proof.Claims

/-- Settles O14: the command requires nothing and keeps the key. -/
theorem keylessPrimitivesAreAcceptedWithoutAKey : Obligations.KeylessPrimitivesAreAcceptedWithoutAKey := by
  intro c hc s ha hb
  have hcmd := keylessPrimitive_of_mem hc
  rw [exec_of_accepted c.1 s ha hb (hcmd.requiresNothing s), hcmd.capturesTheBlock,
    s.accept_eq_accepted _ (hcmd.keepsTheKey _), State.block]

/-- Settles O15: the completion of the command in flight, and the entries of SubBytes and InvSubBytes. -/
theorem keylessPrimitivesCompleteWithTheirTransform : Obligations.KeylessPrimitivesCompleteWithTheirTransform := by
  refine ⟨fun c hc s blk ha hp => ?_, fun S r c => ⟨entry_subBytes S r c, entry_invSubBytes S r c⟩⟩
  have hcmd := keylessPrimitive_of_mem hc
  have hexec := exec_engine _ s ha hp
  rwa [hcmd.isInFlight, hcmd.writesItsTransform] at hexec

/-- Settles O16: the checks of ADDROUNDKEY in their order. -/
theorem addRoundKeyChecksKeyThenIndex : Obligations.AddRoundKeyChecksKeyThenIndex := by
  intro i s ha hb
  split_ifs with hkey hidx
  · exact exec_of_refused _ s _ ha hb (by simp [precondition_addRoundKey, hkey])
  · exact exec_of_refused _ s _ ha hb (by simp [precondition_addRoundKey, hkey, BitVec.lt_def, hidx])
  · rw [exec_of_accepted _ s ha hb (by simp [precondition_addRoundKey, hkey, BitVec.lt_def, hidx])]
    exact congrArg _ (s.accept_eq_accepted _ rfl)

/-- Settles O17: the completion writes the exclusive OR with the round key's four words, which the RAM holds. -/
theorem addRoundKeyXorsTheRoundKeyWords : Obligations.AddRoundKeyXorsTheRoundKeyWords := by
  intro i s ha hp _
  refine ⟨_, exec_engine _ s ha hp, rfl, fun c j hj => ?_⟩
  have hword : rkWord s.rk (4 * i.toNat + c.val) = s.rk[j] := hj ▸ rkWord_eq_getElem s.rk j.val j.isLt
  rw [← hword]
  exact getElem_fromGrid_addRoundKey s.rk i.toNat s.data c

/-- Settles O20: the host half issues the command. -/
theorem hostHalfFrame : Obligations.HostHalfFrame := by
  intro i s t ha h
  obtain rfl : _ = t := Host.Outcome.next.inj ((exec_host i s ha).symm.trans h)
  refine ⟨by simp [sameOperands], by simp [sameModelFields], fun hexpand hclear => ?_, s.issue_rejects_or_accepts _ _⟩
  exact s.issue_keyRecord _ (by simp [capture_dropsKey, hexpand, hclear])

/-- Settles O21: the engine half writes a block and ends the handshake, or does nothing. -/
theorem blockCommandFrame : Obligations.BlockCommandFrame := by
  intro i s t hnop hclear hexpand ha h
  obtain ⟨p, -, rfl, rfl⟩ | rfl := exec_engine_cases ha h
  · obtain ⟨S, hS⟩ := writeResult_eq_setBlock s hnop hclear hexpand
    rw [hS]
    exact ⟨rfl, rfl, rfl, rfl, rfl, rfl, rfl, rfl, rfl, rfl, rfl, rfl, rfl, rfl⟩
  · exact ⟨rfl, rfl, rfl, rfl, rfl, rfl, rfl, rfl, rfl, rfl, rfl, rfl, rfl, rfl⟩

/-- Settles O23: the acceptance keeps every register but the handshake, and the completion writes the transform of the block it captured. -/
theorem keylessPrimitiveRunsFromWordToResult : Obligations.KeylessPrimitiveRunsFromWordToResult := by
  intro c hc s rest hb hp hs
  have hcmd := keylessPrimitive_of_mem hc
  rw [run_of_accepted (decode_encode c.1) hb (hcmd.requiresNothing s) hs, hcmd.capturesTheBlock,
    State.accept_eq_accepted _ _ (hcmd.keepsTheKey _), hcmd.writesItsTransform]
  simp [State.complete, State.setBlock, State.turn, accepted, answered, State.block, hb, hp]

end Sys2Proof.Proofs
end

section
-- The bodies are elaborated one after the other: side by side they do not fit in the check's memory.
set_option deprecated.oldSectionVars true
/-!
PROOFS. The block cipher: Cipher and InvCipher as pipelines of their rounds (O13), the round keys they use (O52) and that each undoes
the other (O53); the commands ENCRYPT and DECRYPT by their two halves (O12, O13) and as whole runs (O24, O54).
-/

namespace Sys2Proof.Machine

open Sys2Proof.Claims

/-! ## The pipelines -/

/-- The states between the steps of InvCipher: step `r` leads from `st (r + 1)` to `st r` (rule R172). -/
theorem exists_states_of_invCipherRounds (rk : Vector Word 60) (n : Nat) (S : Grid) :
    ∃ st : Nat → Grid, st (n + 1) = S ∧ (∀ r, 1 ≤ r → r < n + 1 → st r = invCipherRound rk r (st (r + 1))) ∧
      invCipherRounds rk n S = st 1 := by
  induction n generalizing S with
  | zero => exact ⟨fun _ => S, rfl, fun r h1 h2 => by omega, rfl⟩
  | succ n ih =>
    obtain ⟨st, hfirst, hstep, hlast⟩ := ih (invCipherRound rk (n + 1) S)
    refine ⟨Function.update st (n + 2) S, Function.update_self .., fun r h1 hr => ?_, ?_⟩
    · rw [Function.update_of_ne (by omega)]
      obtain rfl | hlt : r = n + 1 ∨ r < n + 1 := by omega
      · rw [Function.update_self, hfirst]
      · rw [Function.update_of_ne (by omega), hstep r h1 hlt]
    · rw [Function.update_of_ne (by omega)]
      exact hlast

/-! ## The two pipelines undo each other (rule R174) -/

/-- Step `r` of InvCipher takes SubBytes and ShiftRows back to before round `r` of Cipher. -/
theorem invCipherRound_cipherRound (rk : Vector Word 60) (r : Nat) (S : Grid) :
    invCipherRound rk r (shiftRows (subBytes (cipherRound rk r S))) = shiftRows (subBytes S) := by
  simp [invCipherRound, cipherRound]

/-- Round `r` of Cipher takes InvShiftRows and InvSubBytes back to before step `r` of InvCipher. -/
theorem cipherRound_invCipherRound (rk : Vector Word 60) (r : Nat) (S : Grid) :
    cipherRound rk r (invSubBytes (invShiftRows (invCipherRound rk r S))) = invSubBytes (invShiftRows S) := by
  simp [invCipherRound, cipherRound]

/-- So do all the steps over all the rounds. -/
theorem invCipherRounds_cipherRounds (rk : Vector Word 60) (n : Nat) (S : Grid) :
    invCipherRounds rk n (shiftRows (subBytes (cipherRounds rk n S))) = shiftRows (subBytes S) := by
  induction n with
  | zero => rfl
  | succ n ih => rw [invCipherRounds, cipherRounds, invCipherRound_cipherRound, ih]

/-- So do all the rounds over all the steps. -/
theorem cipherRounds_invCipherRounds (rk : Vector Word 60) (n : Nat) (S : Grid) :
    cipherRounds rk n (invSubBytes (invShiftRows (invCipherRounds rk n S))) = invSubBytes (invShiftRows S) := by
  induction n generalizing S with
  | zero => rfl
  | succ n ih => rw [invCipherRounds, cipherRounds, ih, cipherRound_invCipherRound]

/-- InvCipher undoes Cipher. -/
theorem invCipher_cipher (rk : Vector Word 60) (nr : Nat) (S : Grid) : invCipher rk nr (cipher rk nr S) = S := by
  simp [invCipher, cipher, invCipherRounds_cipherRounds]

/-- Cipher undoes InvCipher. -/
theorem cipher_invCipher (rk : Vector Word 60) (nr : Nat) (S : Grid) : cipher rk nr (invCipher rk nr S) = S := by
  simp [invCipher, cipher, cipherRounds_invCipherRounds]

/-! ## ENCRYPT and DECRYPT -/

/-- What rules R175 to R178 say of a cipher command, for its record `c.2.1` and its cipher function `c.2.2`. -/
structure CipherCommand (c : Instr × (Grid → Nat → Pending) × (Vector Word 60 → Nat → Grid → Grid)) : Prop where
  requiresAKey : ∀ s, precondition s c.1 = s.needsKey
  capturesBlockAndRounds : ∀ s, capture s c.1 = c.2.1 s.block s.rounds
  keepsTheKey : ∀ blk nr, (c.2.1 blk nr).dropsKey = false
  isInFlight : ∀ blk nr, (c.2.1 blk nr).instr = c.1
  writesItsCipher : ∀ s blk nr, writeResult s (c.2.1 blk nr) = s.setBlock (c.2.2 s.rk nr blk)

/-- The two commands of the list are such. -/
theorem cipherCommand_of_mem {c : Instr × (Grid → Nat → Pending) × (Vector Word 60 → Nat → Grid → Grid)} (hc : c ∈ ciphers) :
    CipherCommand c := by
  simp only [ciphers, List.mem_cons, List.not_mem_nil, or_false] at hc
  rcases hc with rfl | rfl <;> exact ⟨fun _ => rfl, fun _ => rfl, fun _ _ => rfl, fun _ _ => rfl, fun _ _ _ => rfl⟩

/-- With a valid key the check of ENCRYPT and DECRYPT passes. -/
theorem State.needsKey_of_valid {s : State} (h : s.keyvalid = true) : s.needsKey = none := if_pos h

/-- Without one it fails with NOKEY. -/
theorem State.needsKey_of_invalid {s : State} (h : s.keyvalid = false) : s.needsKey = some .noKey := by
  simp [State.needsKey, h]

/-! ## Runs -/

/-- A run goes on from where a run before it stopped. -/
theorem run_add {s t : State} {m : Nat} (n : Nat) (h : Host.Core.run core m s = .next t) :
    Host.Core.run core (m + n) s = Host.Core.run core n t := by
  induction m generalizing s with
  | zero =>
    obtain rfl : s = t := Host.Outcome.next.inj h
    rw [Nat.zero_add]
  | succ m ih =>
    obtain ⟨u, hu⟩ := s.steps_of_any
    rw [Nat.succ_add, run_succ s u _ hu, ih ((run_succ s u m hu).symm.trans h)]

end Sys2Proof.Machine

namespace Sys2Proof.Proofs

open Sys2Proof.Machine Sys2Proof.Claims

/-- Settles O12: the one check of the two commands is that of the key. -/
theorem ciphersAreAcceptedOnlyWithAKey : Obligations.CiphersAreAcceptedOnlyWithAKey := by
  intro c hc s ha hb
  have hcmd := cipherCommand_of_mem hc
  refine ⟨fun hv => ?_, fun hv => ?_⟩
  · rw [exec_of_accepted c.1 s ha hb ((hcmd.requiresAKey s).trans (State.needsKey_of_valid hv)), hcmd.capturesBlockAndRounds,
      s.accept_eq_accepted _ (hcmd.keepsTheKey ..), State.block, State.rounds]
  · exact exec_of_refused c.1 s .noKey ha hb ((hcmd.requiresAKey s).trans (State.needsKey_of_invalid hv))

/-- Settles O13: the completion of the command in flight, and the states between the rounds and between the steps. -/
theorem ciphersCompleteWithTheTransformedBlock : Obligations.CiphersCompleteWithTheTransformedBlock := by
  refine ⟨fun c hc s blk nr ha hp => ?_, fun rk nr S hnr => ?_⟩
  · have hcmd := cipherCommand_of_mem hc
    have hexec := exec_engine _ s ha hp
    rwa [hcmd.isInFlight, hcmd.writesItsCipher] at hexec
  · obtain ⟨n, rfl⟩ := Nat.exists_eq_add_of_le' hnr
    refine ⟨⟨fun r => cipherRounds rk r (addRoundKey rk 0 S), rfl, fun r h1 _ => ?_, rfl⟩, ?_⟩
    · obtain ⟨k, rfl⟩ := Nat.exists_eq_add_of_le' h1
      rfl
    · obtain ⟨st, hfirst, hstep, hlast⟩ := exists_states_of_invCipherRounds rk n (addRoundKey rk (n + 1) S)
      exact ⟨st, hfirst, hstep, by rw [← hlast]; rfl⟩

/-- Settles O24: the acceptance keeps every register but the handshake, and the completion writes the cipher of the block and at the
rounds it captured. -/
theorem cipherRunsFromWordToResult : Obligations.CipherRunsFromWordToResult := by
  intro c hc s rest hb hp hv hs
  have hcmd := cipherCommand_of_mem hc
  rw [run_of_accepted (decode_encode c.1) hb ((hcmd.requiresAKey s).trans (State.needsKey_of_valid hv)) hs,
    hcmd.capturesBlockAndRounds, State.accept_eq_accepted _ _ (hcmd.keepsTheKey ..), hcmd.writesItsCipher]
  simp [State.complete, State.setBlock, State.turn, accepted, answered, State.block, State.rounds, hb, hp]

/-- Settles O52: each round uses its own round key. -/
theorem ciphersUseTheirRoundKeysOnly : Obligations.CiphersUseTheirRoundKeysOnly :=
  fun _ _ _ S h => ⟨cipher_congr h S, invCipher_congr h S⟩

/-- Settles O53: each step undoes its round, and each round its step. -/
theorem cipherRoundTrip : Obligations.CipherRoundTrip :=
  fun rk nr S => ⟨invCipher_cipher rk nr S, cipher_invCipher rk nr S⟩

/-- A cipher command and its completion, then those of a command whose cipher undoes the first one's, restore DATA0..3. -/
theorem run_cipher_then_inverse {c d : Instr × (Grid → Nat → Pending) × (Vector Word 60 → Nat → Grid → Grid)}
    (hc : c ∈ ciphers) (hd : d ∈ ciphers) (hinv : ∀ rk nr, Function.LeftInverse (d.2.2 rk nr) (c.2.2 rk nr))
    {s : State} {rest : List Event} (hb : s.busy = false) (hp : s.pend = none) (hv : s.keyvalid = true)
    (hs : s.script = writeOf .cmd (encode c.1) :: .engineComplete :: writeOf .cmd (encode d.1) :: .engineComplete :: rest) :
    Host.Core.run core 4 s = .next { s with done := true, agent := .engine, script := rest, resp := some (.okay none) } := by
  have hfirst := cipherRunsFromWordToResult c hc s _ hb hp hv hs
  rw [run_add 2 hfirst, cipherRunsFromWordToResult d hd _ rest ?_ ?_ ?_ rfl, toGrid_fromGrid, hinv, fromGrid_toGrid]
  exacts [hb, hp, hv]

/-- Settles O54: Cipher and InvCipher undo each other at the same rounds and under the same RAM, which no cipher command changes. -/
theorem encryptThenDecryptRestoresTheData : Obligations.EncryptThenDecryptRestoresTheData := by
  have hencrypt : (.encrypt, .encrypt, cipher) ∈ ciphers := List.mem_cons_self
  have hdecrypt : (.decrypt, .decrypt, invCipher) ∈ ciphers := List.mem_cons_of_mem _ List.mem_cons_self
  rintro s rest first second (⟨rfl, rfl⟩ | ⟨rfl, rfl⟩) hb hp hv hs
  · exact run_cipher_then_inverse hencrypt hdecrypt invCipher_cipher hb hp hv hs
  · exact run_cipher_then_inverse hdecrypt hencrypt cipher_invCipher hb hp hv hs

end Sys2Proof.Proofs
end

section
-- The bodies are elaborated one after the other: side by side they do not fit in the check's memory.
set_option deprecated.oldSectionVars true
/-!
PROOFS. The interrupt output and its acknowledgement (O30). ACK is the STATUS write of 0x00000006, so its next state is what
`statusWriteClearsWhatItNames` says of that word (rule R32); with DONE and ERRV both 0 the output is 0 whatever the enables.
-/

namespace Sys2Proof.Machine

/-- With neither flag set the output is low whatever the enables (rule R210). -/
theorem State.irq_of_flags_clear {s : State} (hdone : s.done = false) (herrv : s.errv = false) : s.irq = false := by
  simp [State.irq, hdone, herrv]

end Sys2Proof.Machine

namespace Sys2Proof.Proofs

open Sys2Proof.Machine Sys2Proof.Claims

/-- The step of an acknowledgement as one record: the word 0x00000006 names DONE and the error record. -/
theorem step_asmAck (s : State) (rest : List Event) (h : s.script = asmAck :: rest) :
    step s = .next { answered s rest (.okay none) with done := false, errv := false, errcode := .noError } :=
  statusWriteClearsWhatItNames s rest 0x00000006 h

/-- Settles O30: the output is defined by that equation, and an acknowledgement clears both flags that it needs. -/
theorem interruptLevelFollowsDoneAndError : Obligations.InterruptLevelFollowsDoneAndError :=
  ⟨fun _ => rfl, fun s rest h =>
    ⟨_, step_asmAck s rest h, State.irq_of_flags_clear rfl rfl, rfl, rfl, rfl, rfl, rfl, rfl, rfl⟩⟩

end Sys2Proof.Proofs
end

section
-- The bodies are elaborated one after the other: side by side they do not fit in the check's memory.
set_option deprecated.oldSectionVars true
/-!
PROOFS. Reset at any time (O41). Of the state it comes in, a reset keeps the events to come and the count of draws, so these two
decide its result; every register word is read from fields that hold their values of `State.reset`, whose words
`resetStateHasTheSpecValues` gives (rule R49).
-/

namespace Sys2Proof.Machine

/-- CTRL reads what it reads right after reset: neither RK nor the model's own fields reach it. -/
theorem State.ctrlWord_resetNow (s : State) : s.resetNow.ctrlWord = State.reset.ctrlWord := by
  simp [State.ctrlWord, State.reset]

theorem State.rkaddrWord_resetNow (s : State) : s.resetNow.rkaddrWord = State.reset.rkaddrWord := by
  simp [State.rkaddrWord, State.reset]

theorem State.irq_resetNow (s : State) : s.resetNow.irq = State.reset.irq := by
  simp [State.irq, State.reset]

theorem State.statusWord_resetNow (s : State) : s.resetNow.statusWord = State.reset.statusWord := by
  simp [State.statusWord, State.irq_resetNow, State.reset]

/-- Nothing but the events to come and the count of draws outlives a reset (rule R231). -/
theorem State.resetNow_congr {s u : State} (hscript : s.script = u.script) (hdraws : s.draws = u.draws) :
    s.resetNow = u.resetNow := by
  rw [State.resetNow, State.resetNow, hscript, hdraws]

end Sys2Proof.Machine

namespace Sys2Proof.Proofs

open Sys2Proof.Machine Sys2Proof.Claims

/-- Settles O41: the step is `State.resetNow`, whose registers read as those of `State.reset` and which drops PEND and every register
it came in with. -/
theorem resetAbandonsTheCommandInFlight : Obligations.ResetAbandonsTheCommandInFlight := by
  obtain ⟨-, hctrl, hstatus, hrkaddr, -, -, -, hirq⟩ := resetStateHasTheSpecValues
  refine ⟨fun s rest h => ?_, fun s u rest hs hu hdraws => ?_⟩
  · exact ⟨_, step_of_reset s rest h, (State.ctrlWord_resetNow _).trans hctrl, (State.statusWord_resetNow _).trans hstatus,
      (State.rkaddrWord_resetNow _).trans hrkaddr, rfl, rfl, rfl, (State.irq_resetNow _).trans hirq, rfl⟩
  · have hreset : (s.turn .host rest).resetNow = (u.turn .host rest).resetNow := State.resetNow_congr rfl hdraws
    rw [step_of_reset s rest hs, step_of_reset u rest hu, hreset]

end Sys2Proof.Proofs
end

section
-- The bodies are elaborated one after the other: side by side they do not fit in the check's memory.
set_option deprecated.oldSectionVars true
/-!
PROOFS. The control commands NOP and CLEAR by their two halves (O7, O8). Neither requires anything, so an idle engine accepts both;
NOP keeps the key record and its completion writes nothing, CLEAR drops the key record and its completion wipes KEY, DATA and RK.
-/

namespace Sys2Proof.Machine

/-- After the wipe every word of KEY, DATA and RK reads 0 (rule R191). -/
theorem State.wipe_words (s : State) :
    (∀ k : Fin 8, s.wipe.key[k] = 0) ∧ (∀ k : Fin 4, s.wipe.data[k] = 0) ∧ ∀ j : Fin 60, s.wipe.rk[j] = 0 :=
  ⟨fun k => Vector.getElem_replicate k.isLt, fun k => Vector.getElem_replicate k.isLt, fun j => Vector.getElem_replicate j.isLt⟩

end Sys2Proof.Machine

namespace Sys2Proof.Proofs

open Sys2Proof.Machine Sys2Proof.Claims

/-- Settles O7: NOP requires nothing, keeps the key and writes no result. -/
theorem nopIsTheHandshakeAlone : Obligations.NopIsTheHandshakeAlone := by
  refine ⟨fun s ha hb => ?_, fun s ha hp => exec_engine .nop s ha hp⟩
  rw [exec_of_accepted .nop s ha hb rfl]
  exact congrArg _ (s.accept_eq_accepted .nop rfl)

/-- Settles O8: CLEAR requires nothing and drops the key, and the result it writes is the wipe. -/
theorem clearErasesKeyDataAndExpansion : Obligations.ClearErasesKeyDataAndExpansion := by
  refine ⟨fun s ha hb => ?_, fun s ha hp => ?_⟩
  · rw [exec_of_accepted .clear s ha hb rfl]
    exact congrArg _ (s.accept_eq_accepted_dropKey .clear rfl)
  · exact ⟨s.wipe.complete, exec_engine .clear s ha hp, rfl, s.wipe_words⟩

end Sys2Proof.Proofs
end
